-- ==== Sys2Proof/Word.lean ====
section
/-! DEFINITION. Word.lean: the word types of the node's frames and lines, the index ranges of the section
(Introduction, Conventions: Indices), and the two ways an indexed table is read and written. -/

-- One declaration is checked after another, so that no worker threads pile up on a large machine.
set_option Elab.async false

namespace Sys2Proof

/-- A byte of a frame, an exchange or the store image (chapter 11). -/
abbrev Byte := BitVec 8

/-- A 16-bit field, big-endian on the wire (R1). -/
abbrev Word16 := BitVec 16

/-- Door indices run 0..23. -/
abbrev DoorIx := Fin 24

/-- Group indices run 0..3. -/
abbrev GroupIx := Fin 4

/-- Plan steps run 0..15. -/
abbrev StepIx := Fin 16

/-- The two closure plans, bank 0 and bank 1. -/
abbrev BankIx := Fin 2

/-- Station slots run 0..7; a station's slot is its address minus 96. -/
abbrev Slot := Fin 8

/-- A set of door indices: door n is bit n, bit 0 least significant (R208). -/
abbrev DoorSet := BitVec 24

/-- A set of group indices: group g is bit g. -/
abbrev GroupSet := BitVec 4

/-- The door indices in ascending (fore-to-aft) order. -/
def allDoors : List DoorIx :=
  [0, 1, 2, 3, 4, 5, 6, 7, 8, 9, 10, 11, 12, 13, 14, 15, 16, 17, 18, 19, 20, 21, 22, 23]

/-- The group indices in ascending order. -/
def allGroups : List GroupIx := [0, 1, 2, 3]

/-- The step indices in ascending order. -/
def allSteps : List StepIx := [0, 1, 2, 3, 4, 5, 6, 7, 8, 9, 10, 11, 12, 13, 14, 15]

/-- The station slots in ascending order. -/
def allSlots : List Slot := [0, 1, 2, 3, 4, 5, 6, 7]

/-- Entry `i` of an indexed table replaced by `x`. -/
def upd {α : Type} {n : Nat} (v : Vector α n) (i : Fin n) (x : α) : Vector α n := v.set i x

end Sys2Proof
end

