-- ==== Sys2Proof/Syntax.lean ====
section
/-! DEFINITION. Syntax.lean: the commands of the node, one constructor per row of spec/opcode_table.json, with the
operand types they carry. -/

-- One declaration is checked after another, so that no worker threads pile up on a large machine.
set_option Elab.async false

namespace Sys2Proof

/-- The two rings of the door loop (chapter 8). -/
inductive LoopId where
  | a | b
  deriving DecidableEq, Repr

/-- The six live tables (R185). -/
inductive TableId where
  | door | group | plan0 | plan1 | station | settings
  deriving DecidableEq, Repr

/-- The 28 field lines: one per door and one per power group (R138). -/
inductive LineId where
  | door (i : DoorIx)
  | group (g : GroupIx)
  deriving DecidableEq, Repr

/-- What the store line reports at the end of a SAVE (R200): the image written, with what the read-back gives, or a
failed write. -/
inductive SaveReport where
  | written (readBack : List Byte)
  | failed
  deriving DecidableEq, Repr

/-- The commands: one constructor per row of spec/opcode_table.json, in the table's order. `src` is the source
address of the station frame that carries an order; `straps` is what the address straps show when they are read;
`image` is what the store line returns for a read of the store image. -/
inductive Instr where
  | powerUp (straps : BitVec 7)
  | resetLineAssert
  | resetLineRelease (straps : BitVec 7)
  | startupLoadComplete (image : List Byte)
  | startupLoadTimeout
  | startUpEnd
  | loopFrameArrival (l : LoopId) (bytes : List Byte)
  | cycleStart (l : LoopId) (src cycle : Byte) (heel : Word16)
  | windowExpiry (l : LoopId)
  | transmitEnd (l : LoopId)
  | linePoll (line : LineId)
  | doorReportArrival (i : DoorIx) (bytes : List Byte)
  | groupReportArrival (g : GroupIx) (bytes : List Byte)
  | lineReplyTimeout (line : LineId)
  | warningExpiry (doors : DoorSet)
  | recloseExpiry (doors : DoorSet)
  | deadlineExpiry (doors : DoorSet)
  | beatTimerExpiry
  | compensationExpiry (g : GroupIx)
  | stepTimerExpiry
  | transferTimerExpiry
  | saveComplete (report : SaveReport)
  | saveTimeout
  | loadStoreComplete (image : List Byte)
  | loadStoreTimeout
  | restartReset (straps : BitVec 7)
  | doorOrderClose (src door : Byte)
  | doorOrderOpen (src door : Byte)
  | doorOrderStop (src door : Byte)
  | doorOrderAck (src door : Byte)
  | doorOrderInhibit (src door : Byte)
  | doorOrderRelease (src door : Byte)
  | setModeSea (src : Byte)
  | setModeWorking (src : Byte)
  | rerun (src : Byte)
  | suspend (src : Byte)
  | resume (src : Byte)
  | selectPlan (src bank : Byte)
  | authRequest (src : Byte)
  | authRequestForced (src : Byte)
  | authRelease (src : Byte)
  | authDeny (src : Byte)
  | tableWrite (src : Byte) (table : TableId) (start count : Byte) (records : List Byte)
  | launchNow (src : Byte)
  | launchAtCycle (src : Byte)
  | discard (src : Byte)
  | tableRead (src : Byte) (table : TableId) (start count : Byte)
  | save (src : Byte)
  | loadStore (src : Byte)
  | fixScheme (src : Byte)
  | restart (src : Byte)
  deriving DecidableEq, Repr

end Sys2Proof
end

