-- ==== Sys2Proof/Decode.lean ====
section
/-! DEFINITION. Decode.lean: the commands that a word spells by the table's bits. No row of spec/opcode_table.json
gives its command any bits (every row's "fields" is empty and none has "fixed"), so no word spells a command. -/

-- One declaration is checked after another, so that no worker threads pile up on a large machine.
set_option Elab.async false

namespace Sys2Proof

/-- The command spelled by the low `nbits` bits of `w`: none, because no row of the table gives bits. -/
def decodeTableWord (_nbits _w : Nat) : Option Instr := none

end Sys2Proof
end

