-- ==== Sys2Proof/Machine/Bits.lean ====
section
/-! DEFINITION. Bits.lean: big-endian fields, bit fields and the CRC shared by loop frames, line exchanges and the
store image (R1). -/

-- One declaration is checked after another, so that no worker threads pile up on a large machine.
set_option Elab.async false

namespace Sys2Proof.Machine

open Sys2Proof

/-- The byte holding `n` (its low 8 bits). -/
def byteOf (n : Nat) : Byte := BitVec.ofNat 8 n

/-- The byte holding a signed number in two's complement (R1). -/
def byteOfInt (n : Int) : Byte := BitVec.ofInt 8 n

/-- An unsigned 16-bit field, high byte first (R1). -/
def be16 (hi lo : Byte) : Nat := hi.toNat * 256 + lo.toNat

/-- `n` as a 16-bit field, high byte first (R1). -/
def enc16 (n : Nat) : List Byte := [byteOf (n / 256), byteOf n]

/-- A signed number as a 16-bit two's complement field, high byte first (R1). -/
def encInt16 (n : Int) : List Byte := enc16 (BitVec.ofInt 16 n).toNat

/-- Bit `k` of a byte, bit 7 the most significant (chapter 11). -/
def bit (b : Byte) (k : Nat) : Bool := b.getLsbD k

/-- The `width`-bit field of a byte whose lowest bit is bit `low`. -/
def field (b : Byte) (low width : Nat) : Nat := b.toNat / 2 ^ low % 2 ^ width

/-- A flag as a field value. -/
def flag (b : Bool) : Nat := if b then 1 else 0

/-- One bit of the CRC: shift left, and add the generator x^16 + x^12 + x^5 + 1 when a 1 falls out (R1). -/
def crcShift (c : Word16) : Word16 := if c.getLsbD 15 then (c <<< 1) ^^^ 0x1021#16 else c <<< 1

/-- One byte of the CRC, its bits most significant first (R1). -/
def crcByte (c : Word16) (b : Byte) : Word16 :=
  let c0 := c ^^^ (b.zeroExtend 16 <<< 8)
  crcShift (crcShift (crcShift (crcShift (crcShift (crcShift (crcShift (crcShift c0)))))))

/-- The CRC of a run of bytes: initial value FFFF hex, no final inversion (R1). -/
def crc (bytes : List Byte) : Word16 := bytes.foldl crcByte 0xFFFF#16

/-- A run of bytes followed by its CRC, high byte first (R1). -/
def withCrc (bytes : List Byte) : List Byte := bytes ++ enc16 (crc bytes).toNat

/-- The bytes before the CRC, when the last two bytes are the CRC over them (R1). -/
def checkCrc (bytes : List Byte) : Option (List Byte) :=
  let body := bytes.take (bytes.length - 2)
  if 2 ≤ bytes.length ∧ withCrc body = bytes then some body else none

end Sys2Proof.Machine
end

