-- ==== Sys2Proof/Config.lean ====
section
/-! DEFINITION. Config.lean: the fixed figures of the part (Introduction, Numbers) and the free values of the model. -/

-- One declaration is checked after another, so that no worker threads pile up on a large machine.
set_option Elab.async false

namespace Sys2Proof.Config

/-- Highest node address the straps may give (R153). -/
def maxNodeAddress : Nat := 95
/-- Address of station slot 0 (Introduction, Conventions). -/
def stationBase : Nat := 96
/-- The broadcast address (R156). -/
def broadcast : Nat := 127
/-- Longest payload of a loop frame (R155, R204). -/
def maxPayload : Nat := 240
/-- Frames a forward buffer holds (R159). -/
def forwardDepth : Nat := 3
/-- Frames an insertion queue holds (R160). -/
def insertionDepth : Nat := 4
/-- Fairness count at which an own frame goes next (R162). -/
def fairnessLimit : Nat := 8
/-- Door poll period in tenths (R139). -/
def doorPollPeriod : Nat := 1
/-- Group poll period in tenths (R139). -/
def groupPollPeriod : Nat := 5
/-- Compensation period in tenths (R78). -/
def compensationPeriod : Nat := 100
/-- Step entries of one plan run (R106). -/
def maxVisits : Nat := 16
/-- Records the staging area holds (R188). -/
def stagingDepth : Nat := 96
/-- Records of one TABLE-WRITE, TABLE-DATA or TABLE-READ (R182, R189). -/
def maxRecords : Nat := 8
/-- Tenths a SAVE may take (R200). -/
def saveTime : Nat := 40
/-- Tenths a LOAD-STORE or the start-up load may take (R201, R202). -/
def loadTime : Nat := 10
/-- Longest deadline and captured travel time in tenths (R84, R86). -/
def maxTravel : Nat := 4095
/-- Largest factor; 256 stands for 1.0 (R79, R82). -/
def maxFactor : Nat := 1023
/-- Bad-frame count at which counting stops (R155). -/
def maxBadFrames : Nat := 255

/-- FREE VALUE (log entry 6). Where a broadcast frame is both passed on and acted on in one arrival, the spec lets
either be taken first (R162, R173). The n-th such arrival takes the acting first exactly when this says so; it has no
body, so no proof can see which. -/
opaque actsFirst : Nat → Bool

/-- FREE VALUE (log entry 7). An accepted cycle start that also takes a launch hands its heel to travel timing and the
launch to the table manager with no order between them (R1, R166). The launch goes first exactly when this says so. -/
opaque launchBeforeHeel : Nat → Bool

/-- FREE VALUE (log entry 7). Likewise for the realignment of the lamp beat, which reads the settings that the launch
may change (R7, R166). -/
opaque launchBeforeBeat : Nat → Bool

end Sys2Proof.Config
end

