-- ==== Sys2Proof/Machine/State.lean ====
section
/-! DEFINITION. State.lean: everything the manual gives the node, as plain data, with the reasons a step can stop and
the state right after reset. INVENTORY.md lists each field with the rule that names it and its reset value. -/

-- One declaration is checked after another, so that no worker threads pile up on a large machine.
set_option Elab.async false

namespace Sys2Proof.Machine

open Sys2Proof

/-! ## Named values -/

/-- A switch direction: of a claim, a queued door or a motion (R4, R58). -/
inductive Dir where
  | close | open
  deriving DecidableEq, Repr

/-- Who caused a door's current close or open (R4). -/
inductive Origin where
  | remote | plan | reclose | localCtl
  deriving DecidableEq, Repr

/-- The causes of a door fault (R4). -/
inductive FaultCause where
  | limits | closeOvertime | openOvertime | unit
  deriving DecidableEq, Repr

/-- The eleven door states (R6). QUEUED's direction and FAULT's cause stand in fields of their own (R4). -/
inductive DoorState where
  | absent | unknown | closed | opened | stopped | warning | queued | closing | opening | recloseWait | fault
  deriving DecidableEq, Repr

/-- A level of a local control (R35). -/
inductive Level where
  | none | open | close
  deriving DecidableEq, Repr

/-- A unit's own fault (R18, R207). -/
inductive UnitFault where
  | none | valve | supply | sensor
  deriving DecidableEq, Repr

/-- A group's supply (R56). -/
inductive Supply where
  | main | emergency | accumulator | failed
  deriving DecidableEq, Repr

/-- A line's state (R138). -/
inductive LineState where
  | good | missed1 | missed2 | lost
  deriving DecidableEq, Repr

/-- Section mode (R123). -/
inductive Mode where
  | working | sea
  deriving DecidableEq, Repr

/-- The direction a door slides (R2). -/
inductive Orientation where
  | stbdToPort | portToStbd | vertical | longitudinal
  deriving DecidableEq, Repr

/-- Local mode of a door (R2, R38). -/
inductive LocalMode where
  | momentary | hold
  deriving DecidableEq, Repr

/-- What a door must reach for a step to count it settled (R92). -/
inductive WaitKind where
  | closed | admitted
  deriving DecidableEq, Repr

/-- Isolation action (R170). -/
inductive IsolationAction where
  | hold | close
  deriving DecidableEq, Repr

/-- State of a loop supervisor (R163). -/
inductive LoopState where
  | silent | good | lost
  deriving DecidableEq, Repr

/-- Contact state (R169). -/
inductive Contact where
  | waiting | connected | isolated
  deriving DecidableEq, Repr

/-- Store engine (R187). -/
inductive StoreEngine where
  | idle | saving | loading
  deriving DecidableEq, Repr

/-- Last save outcome (R187). -/
inductive SaveOutcome where
  | none | ok | writeFault
  deriving DecidableEq, Repr

/-- The three reset causes (R203). -/
inductive ResetCause where
  | power | line | order
  deriving DecidableEq, Repr

/-- Launch modes (R192). -/
inductive LaunchMode where
  | now | atCycle
  deriving DecidableEq, Repr

/-- The settled mark of a door of the current step (R94). -/
inductive Mark where
  | unsettled | closed | notClosed
  deriving DecidableEq, Repr

/-- Plan engine state (R94). -/
inductive EngineState where
  | idle
  | running (step : StepIx)
  | suspended (step : StepIx)
  | done
  deriving DecidableEq, Repr

/-- The step timer: running with the tenths left, frozen at them, or not running (R94). -/
inductive StepTimer where
  | stopped
  | running (left : Nat)
  | frozen (left : Nat)
  deriving DecidableEq, Repr

/-- The outcome codes of an ORDER-RESULT (R122). -/
inductive OrderOutcome where
  | done | pending | granted | denied | timeout | superseded | removed | noRight | noAuthority | noDoor
  | badMode | badState | badScheme | faulted | manual | planRunning | notRunning | notSuspended | transferBusy
  | notHolder | noPending | range | stagingOwned | stagingFull | stagingBusy | nothingStaged | checkFailed
  | saveBusy | storeFault
  deriving DecidableEq, Repr

/-- The reasons of a failed launch cross-check (R191). -/
inductive CheckReason where
  | doorGroup | firstStep | cycleWindow
  deriving DecidableEq, Repr

/-! ## Table records (R2, R54, R92, R114, R186) -/

/-- A door record (R2). -/
structure DoorRecord where
  present : Bool
  group : GroupIx
  load : Nat
  closeNominal : Nat
  openNominal : Nat
  margin : Nat
  orientation : Orientation
  localMode : LocalMode
  seaOpen : Bool
  preWarning : Option Nat
  recloseDelay : Option Nat
  deriving DecidableEq, Repr

/-- A group record (R54). -/
structure GroupRecord where
  present : Bool
  capMain : Nat
  capEmergency : Nat
  capAccumulator : Nat
  tRef : Nat
  coefficient : Nat
  heelLo : Nat
  heelHi : Nat
  hMax : Nat
  deriving DecidableEq, Repr

/-- A plan header (R92); a staged first step may be any byte (R189, R208). -/
structure PlanHeader where
  valid : Bool
  firstStep : Nat
  strict : Bool
  deriving DecidableEq, Repr

/-- A plan step (R92); `next` is none for END, `timeout` 0 for no limit. -/
structure PlanStep where
  valid : Bool
  doors : DoorSet
  wait : WaitKind
  timeout : Nat
  next : Option StepIx
  deriving DecidableEq, Repr

/-- One plan bank: a header and 16 steps (R92). -/
structure PlanBank where
  header : PlanHeader
  steps : Vector PlanStep 16
  deriving DecidableEq, Repr

/-- A station record (R114). -/
structure StationRecord where
  enrolled : Bool
  commandRight : Bool
  manageRight : Bool
  deriving DecidableEq, Repr

/-- The settings record (R186). -/
structure Settings where
  sectionNumber : Nat
  preferredLoop : LoopId
  startMode : Mode
  isolation : IsolationAction
  windowMin : Nat
  windowMax : Nat
  lossLimit : Nat
  beatHalf : Nat
  preWarning : Nat
  recloseDelay : Nat
  transferTimeout : Nat
  activeBank : BankIx
  inhibitFirst : Nat
  inhibitCount : Nat
  inhibitComplement : Bool
  deriving DecidableEq, Repr

/-- The six live tables: the 71 live records (R185). -/
structure Tables where
  doors : Vector DoorRecord 24
  groups : Vector GroupRecord 4
  banks : Vector PlanBank 2
  stations : Vector StationRecord 8
  settings : Settings
  deriving DecidableEq, Repr

/-- A staged record with the table and index it is written to (R188). -/
inductive Entry where
  | door (i : DoorIx) (r : DoorRecord)
  | group (g : GroupIx) (r : GroupRecord)
  | header (b : BankIx) (r : PlanHeader)
  | step (b : BankIx) (k : StepIx) (r : PlanStep)
  | station (n : Slot) (r : StationRecord)
  | settings (r : Settings)
  deriving DecidableEq, Repr

/-! ## Reports of the units (R143, R144) -/

/-- The fields of a door REPORT (R143, R207). -/
structure DoorReport where
  closedLimit : Bool
  openLimit : Bool
  sideA : Level
  sideB : Level
  handPump : Bool
  unitFault : UnitFault
  deriving DecidableEq, Repr

/-- The fields of a group REPORT (R144, R207). -/
structure GroupReport where
  supply : Supply
  temperature : Int
  tempValid : Bool
  pump : Bool
  deriving DecidableEq, Repr

/-- What every line controller holds but its held report (R138). `replyWait` holds the outstanding POLL's byte.
`settled` says that the first POLL since polling began has been answered or has met its timeout (R150). -/
structure LineControl where
  line : LineState
  pollTimer : Option Nat
  replyWait : Option Byte
  polling : Bool
  settled : Bool
  deriving DecidableEq, Repr

/-- A door line controller (R138). -/
structure DoorLine where
  ctl : LineControl
  held : Option DoorReport
  deriving DecidableEq, Repr

/-- A group line controller (R138). -/
structure GroupLine where
  ctl : LineControl
  held : Option GroupReport
  deriving DecidableEq, Repr

/-! ## Doors, groups and the plan engine -/

/-- A counter that keeps its value when it stops (R85). -/
structure Counter where
  running : Bool
  value : Nat
  deriving DecidableEq, Repr

/-- A door's runtime record (R4). -/
structure DoorRuntime where
  state : DoorState
  queuedDir : Dir
  origin : Origin
  passage : Bool
  seaOpenHeld : Bool
  heldLoad : Option (GroupIx × Nat)
  deadline : Counter
  travel : Counter
  expected : Nat
  lastClose : Nat
  lastOpen : Nat
  slow : Bool
  faultCause : FaultCause
  faultLatched : Bool
  manual : Bool
  inhibited : Bool
  localRefused : Bool
  changed : Bool
  timer : Option Nat
  sideA : Level
  sideB : Level
  deriving DecidableEq, Repr

/-- A claim (R58). Its class is its direction. -/
structure Claim where
  door : DoorIx
  dir : Dir
  deriving DecidableEq, Repr

/-- A group's runtime record (R55) with its compensation period (R78). -/
structure GroupRuntime where
  supply : Supply
  inUse : Nat
  queue : List Claim
  heldTemp : Option Int
  heldFlag : Bool
  tf : Nat
  period : Option Nat
  deriving DecidableEq, Repr

/-- The result record of the plan engine (R95). -/
structure PlanResult where
  notClosed : Bool
  overrun : Bool
  linkFault : Bool
  aborted : Bool
  stepsVisited : Nat
  doorsNotClosed : Nat
  deriving DecidableEq, Repr

/-- The plan engine (R94). A door's mark is none when it is no door of the current step. -/
structure PlanEngine where
  engine : EngineState
  runningBank : Option BankIx
  currentStep : Option StepIx
  stepTimer : StepTimer
  visits : Nat
  marks : Vector (Option Mark) 24
  result : PlanResult
  deriving DecidableEq, Repr

/-- A pending authority transfer (R128). -/
structure Transfer where
  requester : Slot
  timer : Nat
  deriving DecidableEq, Repr

/-! ## Snapshot and node frames -/

/-- What the snapshot copies for a door (R174). -/
structure SnapDoor where
  state : DoorState
  queuedDir : Dir
  origin : Origin
  faultCause : FaultCause
  faultLatched : Bool
  slow : Bool
  manual : Bool
  passage : Bool
  seaOpenHeld : Bool
  inhibited : Bool
  localRefused : Bool
  line : LineState
  changed : Bool
  lastClose : Nat
  lastOpen : Nat
  deriving DecidableEq, Repr

/-- What the snapshot copies for a group (R175). -/
structure SnapGroup where
  present : Bool
  supply : Supply
  capClose : Nat
  capOpen : Nat
  inUse : Nat
  queueLength : Nat
  heldTemp : Option Int
  heldFlag : Bool
  tf : Nat
  line : LineState
  pump : Bool
  deriving DecidableEq, Repr

/-- The snapshot: section state at an accepted cycle start (R174 to R177). -/
structure Snapshot where
  doors : List SnapDoor
  groups : List SnapGroup
  sectionNumber : Nat
  mode : Mode
  contact : Contact
  activeLoop : LoopId
  loopA : LoopState
  loopB : LoopState
  heldHeel : Int
  engine : EngineState
  activeBank : BankIx
  currentStep : Option StepIx
  result : PlanResult
  holder : Option Slot
  pendingRequester : Option Slot
  stagingCount : Nat
  stagingOwner : Option Slot
  launchPending : Option LaunchMode
  storeEngine : StoreEngine
  lastSave : SaveOutcome
  tablesFromStore : Bool
  resetCause : ResetCause
  individual : Bool
  badFramesA : Nat
  badFramesB : Nat
  overflowA : Bool
  overflowB : Bool
  responseLost : Bool
  deriving DecidableEq, Repr

/-- The fields of an ORDER-RESULT (R121, R206): kind, action and door index echo the order. -/
structure OrderResult where
  dest : Slot
  cycle : Nat
  kind : Byte
  action : Byte
  door : Byte
  outcome : OrderOutcome
  position : Option Nat
  reason : Option CheckReason
  deriving DecidableEq, Repr

/-- The fields of a TABLE-DATA (R183, R206). -/
structure TableData where
  dest : Slot
  cycle : Nat
  table : TableId
  start : Nat
  count : Nat
  records : List Byte
  deriving DecidableEq, Repr

/-- The three node frames (R206). -/
inductive NodeFrame where
  | sectionReport (cycle : Nat) (snap : Snapshot)
  | orderResult (r : OrderResult)
  | tableData (d : TableData)
  deriving DecidableEq, Repr

/-- A frame on the transmitter: one passed on, as it arrived, or one of the node's own (R162). -/
inductive TxFrame where
  | through (bytes : List Byte)
  | own (f : NodeFrame)
  deriving DecidableEq, Repr

/-! ## Loop ports -/

/-- A loop supervisor (R163); `window` is none while the window timer is stopped. -/
structure Supervisor where
  loop : LoopState
  window : Option Nat
  faults : Nat
  recovery : Nat
  windowMin : Nat
  windowMax : Nat
  deriving DecidableEq, Repr

/-- A loop port (R155, R159 to R163): forward buffer, insertion queue, arbiter, transmitter and supervisor. -/
structure Port where
  forward : List (List Byte)
  insertion : List NodeFrame
  fairness : Nat
  sending : Option TxFrame
  badFrames : Nat
  overflow : Bool
  sup : Supervisor
  deriving DecidableEq, Repr

/-- The two loop ports. -/
structure Ports where
  a : Port
  b : Port
  deriving DecidableEq, Repr

/-! ## Table manager -/

/-- A pending launch (R187). `silent` marks one made by LOAD-STORE, whose sender gets no further result (R193). -/
structure PendingLaunch where
  mode : LaunchMode
  sender : Slot
  silent : Bool
  deriving DecidableEq, Repr

/-- The write cursors, one per table (R190). -/
structure Cursors where
  door : Nat
  group : Nat
  plan0 : Nat
  plan1 : Nat
  station : Nat
  settings : Nat
  deriving DecidableEq, Repr

/-- How far the node has come since its last reset (R158, R202, R203). -/
inductive Phase where
  /-- Reset, the straps not yet read: the reset line may be asserted. -/
  | inReset
  /-- Start-up, the store image being read. -/
  | loading
  /-- Start-up, the tables placed, first POLLs outstanding. -/
  | settling
  /-- Running: the node acts on frames. -/
  | running
  /-- RESTART taken; the flags say in which queue (A, B) its DONE was placed. -/
  | restartWait (placedA placedB : Bool)
  deriving DecidableEq, Repr

/-! ## The state of the node -/

/-- Everything the node holds. The last three fields are the model's own: `storeTorn`, the one thing the manual fixes
about what lies in the store (R200); `choices`, which indexes the free value; `pending`, the commands that wait. -/
structure State where
  phase : Phase
  straps : BitVec 7
  resetCause : ResetCause
  schemeFuse : Bool
  tables : Tables
  doors : Vector DoorRuntime 24
  doorLines : Vector DoorLine 24
  groups : Vector GroupRuntime 4
  groupLines : Vector GroupLine 4
  beatOn : Bool
  beatTimer : Option Nat
  inhibitSet : DoorSet
  heldHeel : Int
  plan : PlanEngine
  mode : Mode
  holder : Option Slot
  transfer : Option Transfer
  ports : Ports
  activeLoop : LoopId
  contact : Contact
  snapshot : Option Snapshot
  lastCycle : Nat
  responseLost : Bool
  staging : List Entry
  stagingOwner : Option Slot
  cursors : Cursors
  pendingLaunch : Option PendingLaunch
  storeEngine : StoreEngine
  storeTimer : Option Nat
  saveImage : Option Tables
  storeSender : Option Slot
  lastSave : SaveOutcome
  tablesFromStore : Bool
  storeTorn : Bool
  choices : Nat
  pending : List Instr
  deriving DecidableEq, Repr

/-- Why the node could stop. -/
inductive Fault where
  /-- Raised by nobody: the manual names no event that stops the node, so every command answers a next state. The
  constructor only gives the type a value; safe, because no step answers with it. -/
  | never
  deriving DecidableEq, Repr

/-- Why a command could be turned away by the model. -/
inductive Refusal where
  /-- Raised by an arm of `exec` for a command that has no meaning yet; safe. No arm raises it. -/
  | notModelled (mnemonic : String)
  deriving DecidableEq, Repr

/-! ## Reset values -/

/-- An empty door record: absent, every other field at the smallest value of its range (R185). -/
def DoorRecord.empty : DoorRecord :=
  { present := false, group := 0, load := 1, closeNominal := 10, openNominal := 10, margin := 0,
    orientation := .stbdToPort, localMode := .momentary, seaOpen := false, preWarning := none, recloseDelay := none }

/-- An empty group record (R185). -/
def GroupRecord.empty : GroupRecord :=
  { present := false, capMain := 0, capEmergency := 0, capAccumulator := 0, tRef := 0, coefficient := 0, heelLo := 0,
    heelHi := 0, hMax := 256 }

/-- An empty plan bank: nothing valid, every next END (R185). -/
def PlanBank.empty : PlanBank :=
  { header := { valid := false, firstStep := 0, strict := false }
    steps := Vector.replicate 16 { valid := false, doors := 0, wait := .closed, timeout := 0, next := none } }

/-- An empty station record (R114, R185). -/
def StationRecord.empty : StationRecord := { enrolled := false, commandRight := false, manageRight := false }

/-- The default settings (R186). -/
def Settings.default : Settings :=
  { sectionNumber := 0, preferredLoop := .a, startMode := .working, isolation := .hold, windowMin := 3,
    windowMax := 15, lossLimit := 3, beatHalf := 5, preWarning := 50, recloseDelay := 100, transferTimeout := 300,
    activeBank := 0, inhibitFirst := 0, inhibitCount := 0, inhibitComplement := false }

/-- The empty tables of a failed load (R185). -/
def Tables.empty : Tables :=
  { doors := Vector.replicate 24 DoorRecord.empty
    groups := Vector.replicate 4 GroupRecord.empty
    banks := Vector.replicate 2 PlanBank.empty
    stations := Vector.replicate 8 StationRecord.empty
    settings := Settings.default }

/-- A line controller after reset (R138). -/
def LineControl.reset : LineControl :=
  { line := .lost, pollTimer := none, replyWait := none, polling := false, settled := false }

/-- A door's runtime record after reset (R4), given its inhibited flag, which follows the scheme. -/
def DoorRuntime.reset (state : DoorState) (inhibited : Bool) : DoorRuntime :=
  { state := state, queuedDir := .close, origin := .remote, passage := false, seaOpenHeld := false, heldLoad := none,
    deadline := { running := false, value := 0 }, travel := { running := false, value := 0 }, expected := 0,
    lastClose := 0, lastOpen := 0, slow := false, faultCause := .limits, faultLatched := false, manual := false,
    inhibited := inhibited, localRefused := false, changed := false, timer := none, sideA := .none, sideB := .none }

/-- A group's runtime record after reset (R55, R91). -/
def GroupRuntime.reset : GroupRuntime :=
  { supply := .accumulator, inUse := 0, queue := [], heldTemp := none, heldFlag := false, tf := 256, period := none }

/-- The clear result record (R95). -/
def PlanResult.clear : PlanResult :=
  { notClosed := false, overrun := false, linkFault := false, aborted := false, stepsVisited := 0,
    doorsNotClosed := 0 }

/-- The plan engine after reset (R94, R113). -/
def PlanEngine.reset : PlanEngine :=
  { engine := .idle, runningBank := none, currentStep := none, stepTimer := .stopped, visits := 0,
    marks := Vector.replicate 24 none, result := PlanResult.clear }

/-- A loop port after reset (R163, R171). -/
def Port.reset : Port :=
  { forward := [], insertion := [], fairness := 0, sending := none, badFrames := 0, overflow := false,
    sup := { loop := .silent, window := none, faults := 0, recovery := 0, windowMin := 3, windowMax := 15 } }

/-- The write cursors at 0 (R190). -/
def Cursors.zero : Cursors := { door := 0, group := 0, plan0 := 0, plan1 := 0, station := 0, settings := 0 }

/-- The node right after a power reset, before its straps are read: the values the chapters give after reset, the
scheme fuse clear as when the part is first supplied (R51). Log entries 1 and 2 name the values no rule states. -/
def State.reset : State :=
  { phase := .inReset
    straps := 0
    resetCause := .power
    schemeFuse := false
    tables := Tables.empty
    doors := Vector.replicate 24 (DoorRuntime.reset .absent false)
    doorLines := Vector.replicate 24 { ctl := LineControl.reset, held := none }
    groups := Vector.replicate 4 GroupRuntime.reset
    groupLines := Vector.replicate 4 { ctl := LineControl.reset, held := none }
    beatOn := true
    beatTimer := none
    inhibitSet := BitVec.allOnes 24
    heldHeel := 0
    plan := PlanEngine.reset
    mode := .working
    holder := none
    transfer := none
    ports := { a := Port.reset, b := Port.reset }
    activeLoop := .a
    contact := .waiting
    snapshot := none
    lastCycle := 0
    responseLost := false
    staging := []
    stagingOwner := none
    cursors := Cursors.zero
    pendingLaunch := none
    storeEngine := .idle
    storeTimer := none
    saveImage := none
    storeSender := none
    lastSave := .none
    tablesFromStore := false
    storeTorn := false
    choices := 0
    pending := [] }

end Sys2Proof.Machine
end

