-- ==== Sys2Proof/WellFormed.lean ====
section
/-! DEFINITION. WellFormed.lean: which commands can be sent to the node at all. -/

-- One declaration is checked after another, so that no worker threads pile up on a large machine.
set_option Elab.async false

namespace Sys2Proof

/-- A station address, 96..103 (Introduction, System setting). -/
def isStation (src : Byte) : Bool := 96 ≤ src.toNat && src.toNat ≤ 103

/-- A command is well formed when it can arise at the node's boundary: a CYCLE-START row and an order row come from
a station address (R116, R164), a joint expiry names at least one door, and the records of a TABLE-WRITE leave room
for its three leading bytes in a frame's payload (R204, R205). -/
def Instr.wf : Instr → Bool
  | .powerUp _ => true
  | .resetLineAssert => true
  | .resetLineRelease _ => true
  | .startupLoadComplete _ => true
  | .startupLoadTimeout => true
  | .startUpEnd => true
  | .loopFrameArrival _ _ => true
  | .cycleStart _ src _ _ => isStation src
  | .windowExpiry _ => true
  | .transmitEnd _ => true
  | .linePoll _ => true
  | .doorReportArrival _ _ => true
  | .groupReportArrival _ _ => true
  | .lineReplyTimeout _ => true
  | .warningExpiry doors => doors != 0
  | .recloseExpiry doors => doors != 0
  | .deadlineExpiry doors => doors != 0
  | .beatTimerExpiry => true
  | .compensationExpiry _ => true
  | .stepTimerExpiry => true
  | .transferTimerExpiry => true
  | .saveComplete _ => true
  | .saveTimeout => true
  | .loadStoreComplete _ => true
  | .loadStoreTimeout => true
  | .restartReset _ => true
  | .doorOrderClose src _ => isStation src
  | .doorOrderOpen src _ => isStation src
  | .doorOrderStop src _ => isStation src
  | .doorOrderAck src _ => isStation src
  | .doorOrderInhibit src _ => isStation src
  | .doorOrderRelease src _ => isStation src
  | .setModeSea src => isStation src
  | .setModeWorking src => isStation src
  | .rerun src => isStation src
  | .suspend src => isStation src
  | .resume src => isStation src
  | .selectPlan src _ => isStation src
  | .authRequest src => isStation src
  | .authRequestForced src => isStation src
  | .authRelease src => isStation src
  | .authDeny src => isStation src
  | .tableWrite src _ _ _ records => isStation src && records.length + 3 ≤ Config.maxPayload
  | .launchNow src => isStation src
  | .launchAtCycle src => isStation src
  | .discard src => isStation src
  | .tableRead src _ _ _ => isStation src
  | .save src => isStation src
  | .loadStore src => isStation src
  | .fixScheme src => isStation src
  | .restart src => isStation src

end Sys2Proof
end

