-- ==== Sys2Proof/Machine/Operands.lean ====
section
/-! DEFINITION. Operands.lean: how a command's operands are read: the sender's slot and standing, the rights an order
needs, a door index byte, a set of doors, the port and the lines they name, and the node's own address. -/

-- One declaration is checked after another, so that no worker threads pile up on a large machine.
set_option Elab.async false

namespace Sys2Proof.Machine

open Sys2Proof

/-! ## Doors and groups -/

/-- Whether door `i` is in a set (R208). -/
def inSet (set : DoorSet) (i : DoorIx) : Bool := set.getLsbD i.val

/-- The set of door `i` alone. -/
def doorBit (i : DoorIx) : DoorSet := 1#24 <<< i.val

/-- The members of a set in ascending door index (R12, R59). -/
def members (set : DoorSet) : List DoorIx := allDoors.filter (inSet set)

/-- Whether group `g` is in a set. -/
def inGroups (set : GroupSet) (g : GroupIx) : Bool := set.getLsbD g.val

/-- The set of group `g` alone. -/
def groupBit (g : GroupIx) : GroupSet := 1#4 <<< g.val

/-- The door a DOOR-ORDER's index byte names, when it lies in 0..23 (R117, step 3). -/
def doorOfByte (b : Byte) : Option DoorIx := if h : b.toNat < 24 then some ⟨b.toNat, h⟩ else none

/-! ## Ports and loops -/

/-- The other loop. -/
def otherLoop : LoopId → LoopId
  | .a => .b
  | .b => .a

/-- The port of a loop. -/
def Ports.port (p : Ports) : LoopId → Port
  | .a => p.a
  | .b => p.b

/-- The ports with the port of one loop replaced. -/
def Ports.set (p : Ports) (l : LoopId) (x : Port) : Ports :=
  match l with
  | .a => { p with a := x }
  | .b => { p with b := x }

/-! ## Addresses and senders -/

/-- The own address the straps give: a number in 1..95, else none, an address fault (R153). -/
def State.ownAddress (s : State) : Option Nat :=
  if 1 ≤ s.straps.toNat ∧ s.straps.toNat ≤ Config.maxNodeAddress then some s.straps.toNat else none

/-- Whether the straps give an address fault (R153). -/
def State.addressFault (s : State) : Bool := s.ownAddress.isNone

/-- The slot of a station address 96..103 (Introduction, Conventions). -/
def slotOf (src : Byte) : Option Slot :=
  if isStation src then some (Fin.ofNat 8 (src.toNat - Config.stationBase)) else none

/-- The station address of a slot. -/
def slotAddress (n : Slot) : Nat := Config.stationBase + n.val

/-- Open enrolment: no slot of the live station table is enrolled (R115). -/
def openEnrolment (ts : Tables) : Bool := allSlots.all (fun n => !ts.stations[n].enrolled)

/-- Whether the station of a slot has standing (R115). -/
def hasStanding (ts : Tables) (n : Slot) : Bool := openEnrolment ts || ts.stations[n].enrolled

/-- Whether the station of a slot is enrolled with command right (R115). -/
def hasCommand (ts : Tables) (n : Slot) : Bool :=
  openEnrolment ts || (ts.stations[n].enrolled && ts.stations[n].commandRight)

/-- Whether the station of a slot is enrolled with manage right (R115). -/
def hasManage (ts : Tables) (n : Slot) : Bool :=
  openEnrolment ts || (ts.stations[n].enrolled && ts.stations[n].manageRight)

/-- What an order needs of its sender (R118). -/
inductive Need where
  | enrolled | authority | command | manage
  deriving DecidableEq, Repr

/-- The refusal of an order whose sender lacks what it needs; none when the sender has it (R117, step 2; R118). -/
def State.rightsRefusal (s : State) (n : Slot) : Need → Option OrderOutcome
  | .enrolled => none
  | .authority => if s.holder = some n then none else some .noAuthority
  | .command => if hasCommand s.tables n then none else some .noRight
  | .manage => if hasManage s.tables n then none else some .noRight

/-! ## Phases -/

/-- Whether the node acts on the frames it takes in: outside start-up, without an address fault, and not in the
restart wait (R154, R158, R203). -/
def State.actsOnFrames (s : State) : Bool := s.phase = .running && !s.addressFault

/-- Whether what the lines learn is handed on: outside start-up (R150). -/
def State.handsOn (s : State) : Bool :=
  match s.phase with
  | .running => true
  | .restartWait _ _ => true
  | .inReset => false
  | .loading => false
  | .settling => false

end Sys2Proof.Machine
end

