-- ==== Sys2Proof/Machine/Flags.lean ====
section
/-! DEFINITION. Flags.lean: the flags the node derives: a door's changed flag, the inhibited flag of the two schemes,
the resolved control level, the settled mark of a state entered, and the state a door's limits show. -/

-- One declaration is checked after another, so that no worker threads pile up on a large machine.
set_option Elab.async false

namespace Sys2Proof.Machine

open Sys2Proof

/-- The fields of a door whose change sets its changed flag (R5). -/
structure Indication where
  state : DoorState
  queuedDir : Dir
  origin : Origin
  cause : Option FaultCause
  faultLatched : Bool
  slow : Bool
  manual : Bool
  passage : Bool
  seaOpenHeld : Bool
  inhibited : Bool
  localRefused : Bool
  deriving DecidableEq, Repr

/-- A door's indication: its state with the qualifier, its queued direction, its origin and the flags R5 names. The
fault cause qualifies FAULT alone. -/
def DoorRuntime.indication (d : DoorRuntime) : Indication :=
  { state := d.state, queuedDir := d.queuedDir, origin := d.origin
    cause := if d.state = .fault then some d.faultCause else none
    faultLatched := d.faultLatched, slow := d.slow, manual := d.manual, passage := d.passage
    seaOpenHeld := d.seaOpenHeld, inhibited := d.inhibited, localRefused := d.localRefused }

/-- A runtime record with its changed flag set when its indication differs from the old record's (R5). -/
def DoorRuntime.markChanged (d old : DoorRuntime) : DoorRuntime :=
  if d.indication = old.indication then d else { d with changed := true }

/-- Whether a line state's change sets the door's changed flag: a passage between LOST and any other state (R5). -/
def crossesLost (old new : LineState) : Bool := decide (old = .lost) != decide (new = .lost)

/-- The RANGE scheme: indices from first up to but not including first + count, clipped at 24 and turned round by
complement (R48). -/
def inhibitedByRange (st : Settings) (i : DoorIx) : Bool :=
  (decide (st.inhibitFirst ≤ i.val) && decide (i.val < st.inhibitFirst + st.inhibitCount)) != st.inhibitComplement

/-- A door's inhibited flag from the scheme in force: INDIVIDUAL once the fuse is set, RANGE before (R47 to R49). -/
def inhibitedBy (fuse : Bool) (set : DoorSet) (st : Settings) (i : DoorIx) : Bool :=
  if fuse then inSet set i else inhibitedByRange st i

/-- The resolved level of two sides: OPEN wins over CLOSE, CLOSE over NONE (R35). -/
def resolve (a b : Level) : Level :=
  if a = .open ∨ b = .open then .open else if a = .close ∨ b = .close then .close else .none

/-- The settled mark set when a door enters a state, under the step's wait (R103). -/
def markOnEntry (wait : WaitKind) : DoorState → Option Mark
  | .closed => some .closed
  | .closing => if wait = .admitted then some .closed else none
  | .fault => some .notClosed
  | .unknown => some .notClosed
  | .absent => some .notClosed
  | .opened => none
  | .stopped => none
  | .warning => none
  | .queued => none
  | .opening => none
  | .recloseWait => none

/-- The resting state a report's limits show, other than both limits set (R8). -/
def DoorReport.restState (r : DoorReport) : DoorState :=
  if r.closedLimit then .closed else if r.openLimit then .opened else .stopped

/-- Both limits set: conflicting limits (R8, R17). -/
def DoorReport.conflicting (r : DoorReport) : Bool := r.closedLimit && r.openLimit

/-- The closed limit alone. -/
def DoorReport.closedAlone (r : DoorReport) : Bool := r.closedLimit && !r.openLimit

/-- The open limit alone. -/
def DoorReport.openAlone (r : DoorReport) : Bool := r.openLimit && !r.closedLimit

end Sys2Proof.Machine
end

