-- ==== Sys2Proof/Machine/Records.lean ====
section
/-! DEFINITION. Records.lean: the layouts of the table records and of the store image (R208), with the range checks of
a staged record (R189) and the launch cross-check (R191). -/

-- One declaration is checked after another, so that no worker threads pile up on a large machine.
set_option Elab.async false

namespace Sys2Proof.Machine

open Sys2Proof

/-- `some x` when the check holds. -/
def guardSome {α : Type} (check : Bool) (x : α) : Option α := if check then some x else none

/-! ## One record -/

/-- The door orientation of a code (R208); all four codes are assigned. -/
def orientationOf (code : Nat) : Orientation :=
  if code = 0 then .stbdToPort else if code = 1 then .portToStbd else if code = 2 then .vertical else .longitudinal

/-- The code of an orientation (R208). -/
def orientationCode : Orientation → Nat
  | .stbdToPort => 0
  | .portToStbd => 1
  | .vertical => 2
  | .longitudinal => 3

/-- An override field: absent unless its presence bit is set, and then range-checked (R189, R208). -/
def overrideOk (present : Bool) (value limit : Nat) : Bool := !present || decide (value ≤ limit)

/-- A door record from its bytes, when every field is in range (R189, R208). -/
def doorOfBytes : List Byte → Option DoorRecord
  | [b0, g, l, c1, c0, o1, o0, m1, m0, pw, r1, r0] =>
    guardSome
      (g.toNat ≤ 3 && (1 ≤ l.toNat && l.toNat ≤ 8) && (10 ≤ be16 c1 c0 && be16 c1 c0 ≤ 1200)
        && (10 ≤ be16 o1 o0 && be16 o1 o0 ≤ 1200) && be16 m1 m0 ≤ 600
        && overrideOk (bit b0 4) pw.toNat 200 && overrideOk (bit b0 3) (be16 r1 r0) 600)
      { present := bit b0 7
        group := Fin.ofNat 4 g.toNat
        load := l.toNat
        closeNominal := be16 c1 c0
        openNominal := be16 o1 o0
        margin := be16 m1 m0
        orientation := orientationOf (field b0 0 2)
        localMode := if bit b0 6 then .hold else .momentary
        seaOpen := bit b0 5
        preWarning := guardSome (bit b0 4) pw.toNat
        recloseDelay := guardSome (bit b0 3) (be16 r1 r0) }
  | _ => none

/-- The bytes of a door record; an absent override is 0 in its bytes (R208). -/
def doorBytes (r : DoorRecord) : List Byte :=
  [byteOf (flag r.present * 128 + flag (r.localMode = .hold) * 64 + flag r.seaOpen * 32
      + flag r.preWarning.isSome * 16 + flag r.recloseDelay.isSome * 8 + orientationCode r.orientation),
    byteOf r.group.val, byteOf r.load]
    ++ enc16 r.closeNominal ++ enc16 r.openNominal ++ enc16 r.margin
    ++ [byteOf (r.preWarning.getD 0)] ++ enc16 (r.recloseDelay.getD 0)

/-- A group record from its bytes, when every field is in range (R189, R208). -/
def groupOfBytes : List Byte → Option GroupRecord
  | [b0, cm, ce, ca, t, k, l1, l0, h1, h0, x1, x0] =>
    guardSome
      (cm.toNat ≤ 15 && ce.toNat ≤ 15 && ca.toNat ≤ 15 && t.toNat ≤ 60 && be16 l1 l0 ≤ 300 && be16 h1 h0 ≤ 300
        && (256 ≤ be16 x1 x0 && be16 x1 x0 ≤ 1023))
      { present := bit b0 7, capMain := cm.toNat, capEmergency := ce.toNat, capAccumulator := ca.toNat,
        tRef := t.toNat, coefficient := k.toNat, heelLo := be16 l1 l0, heelHi := be16 h1 h0, hMax := be16 x1 x0 }
  | _ => none

/-- The bytes of a group record (R208). -/
def groupBytes (r : GroupRecord) : List Byte :=
  [byteOf (flag r.present * 128), byteOf r.capMain, byteOf r.capEmergency, byteOf r.capAccumulator, byteOf r.tRef,
    byteOf r.coefficient] ++ enc16 r.heelLo ++ enc16 r.heelHi ++ enc16 r.hMax

/-- A plan header from its bytes; its first step is left to the cross-check (R189, R208). -/
def headerOfBytes : List Byte → Option PlanHeader
  | [b0, k] => some { valid := bit b0 7, firstStep := k.toNat, strict := bit b0 6 }
  | _ => none

/-- The bytes of a plan header (R208). -/
def headerBytes (r : PlanHeader) : List Byte := [byteOf (flag r.valid * 128 + flag r.strict * 64), byteOf r.firstStep]

/-- A plan step from its bytes, when its timeout and next are in range (R189, R208). -/
def stepOfBytes : List Byte → Option PlanStep
  | [b0, n, t1, t0, d2, d1, d0] =>
    guardSome (be16 t1 t0 ≤ 3000 && (n.toNat ≤ 15 || n.toNat = 255))
      { valid := bit b0 7
        doors := BitVec.ofNat 24 (d2.toNat * 65536 + d1.toNat * 256 + d0.toNat)
        wait := if bit b0 6 then .admitted else .closed
        timeout := be16 t1 t0
        next := guardSome (n.toNat ≤ 15) (Fin.ofNat 16 n.toNat) }
  | _ => none

/-- The bytes of a plan step; FF for END (R208). -/
def stepBytes (r : PlanStep) : List Byte :=
  [byteOf (flag r.valid * 128 + flag (r.wait = .admitted) * 64),
    match r.next with
    | some k => byteOf k.val
    | none => 0xFF#8]
    ++ enc16 r.timeout ++ [byteOf (r.doors.toNat / 65536), byteOf (r.doors.toNat / 256), byteOf r.doors.toNat]

/-- A station record from its byte (R208). -/
def stationOfBytes : List Byte → Option StationRecord
  | [b0] => some { enrolled := bit b0 7, commandRight := bit b0 6, manageRight := bit b0 5 }
  | _ => none

/-- The byte of a station record (R208). -/
def stationBytes (r : StationRecord) : List Byte :=
  [byteOf (flag r.enrolled * 128 + flag r.commandRight * 64 + flag r.manageRight * 32)]

/-- The settings record from its bytes, when every field is in the range of R186 (R189, R208). -/
def settingsOfBytes : List Byte → Option Settings
  | [n, b1, wn, wx, loss, beat, pw, r1, r0, t1, t0, fst, cnt] =>
    guardSome
      ((1 ≤ wn.toNat && wn.toNat ≤ 50) && (2 ≤ wx.toNat && wx.toNat ≤ 100) && (1 ≤ loss.toNat && loss.toNat ≤ 8)
        && (2 ≤ beat.toNat && beat.toNat ≤ 20) && pw.toNat ≤ 200 && be16 r1 r0 ≤ 600
        && (10 ≤ be16 t1 t0 && be16 t1 t0 ≤ 600) && fst.toNat ≤ 23 && cnt.toNat ≤ 24)
      { sectionNumber := n.toNat
        preferredLoop := if bit b1 7 then .b else .a
        startMode := if bit b1 6 then .sea else .working
        isolation := if bit b1 5 then .close else .hold
        windowMin := wn.toNat
        windowMax := wx.toNat
        lossLimit := loss.toNat
        beatHalf := beat.toNat
        preWarning := pw.toNat
        recloseDelay := be16 r1 r0
        transferTimeout := be16 t1 t0
        activeBank := if bit b1 3 then 1 else 0
        inhibitFirst := fst.toNat
        inhibitCount := cnt.toNat
        inhibitComplement := bit b1 4 }
  | _ => none

/-- The bytes of the settings record (R208). -/
def settingsBytes (r : Settings) : List Byte :=
  [byteOf r.sectionNumber,
    byteOf (flag (r.preferredLoop = .b) * 128 + flag (r.startMode = .sea) * 64 + flag (r.isolation = .close) * 32
      + flag r.inhibitComplement * 16 + flag (r.activeBank = 1) * 8),
    byteOf r.windowMin, byteOf r.windowMax, byteOf r.lossLimit, byteOf r.beatHalf, byteOf r.preWarning]
    ++ enc16 r.recloseDelay ++ enc16 r.transferTimeout ++ [byteOf r.inhibitFirst, byteOf r.inhibitCount]

/-! ## Tables -/

/-- How many records a table has (R185). -/
def tableRecords : TableId → Nat
  | .door => 24
  | .group => 4
  | .plan0 => 17
  | .plan1 => 17
  | .station => 8
  | .settings => 1

/-- The size of a record at an index; past a table's end the table's own size, the step size for a plan bank (R205,
R208). -/
def recordSize (t : TableId) (index : Nat) : Nat :=
  match t with
  | .door => 12
  | .group => 12
  | .plan0 => if index = 0 then 2 else 7
  | .plan1 => if index = 0 then 2 else 7
  | .station => 1
  | .settings => 13

/-- The code of a table in a frame (R205). -/
def tableCode : TableId → Nat
  | .door => 1
  | .group => 2
  | .plan0 => 3
  | .plan1 => 4
  | .station => 5
  | .settings => 6

/-- The table of a code, when the code is assigned (R205). -/
def tableOfCode (code : Nat) : Option TableId :=
  if code = 1 then some .door else if code = 2 then some .group else if code = 3 then some .plan0
  else if code = 4 then some .plan1 else if code = 5 then some .station else if code = 6 then some .settings
  else none

/-- The plan record at an index of a bank: 0 is the header, 1..16 are steps 0..15 (R185). -/
def planEntry (b : BankIx) (index : Nat) (bytes : List Byte) : Option Entry :=
  if index = 0 then (headerOfBytes bytes).map (Entry.header b)
  else if index ≤ 16 then (stepOfBytes bytes).map (Entry.step b (Fin.ofNat 16 (index - 1)))
  else none

/-- A record of a table at an index, read from its bytes and range-checked (R189); none when a field is out of its
range or the index is past the table. -/
def entryOfBytes (t : TableId) (index : Nat) (bytes : List Byte) : Option Entry :=
  if index < tableRecords t then
    match t with
    | .door => (doorOfBytes bytes).map (Entry.door (Fin.ofNat 24 index))
    | .group => (groupOfBytes bytes).map (Entry.group (Fin.ofNat 4 index))
    | .plan0 => planEntry 0 index bytes
    | .plan1 => planEntry 1 index bytes
    | .station => (stationOfBytes bytes).map (Entry.station (Fin.ofNat 8 index))
    | .settings => (settingsOfBytes bytes).map Entry.settings
  else none

/-- The plan record of live tables at an index of a bank, as bytes (R183). -/
def planRecordBytes (bank : PlanBank) (index : Nat) : List Byte :=
  if index = 0 then headerBytes bank.header else stepBytes bank.steps[Fin.ofNat 16 (index - 1)]

/-- The live record of a table at an index, as bytes (R183, R208). -/
def recordBytes (ts : Tables) (t : TableId) (index : Nat) : List Byte :=
  match t with
  | .door => doorBytes ts.doors[Fin.ofNat 24 index]
  | .group => groupBytes ts.groups[Fin.ofNat 4 index]
  | .plan0 => planRecordBytes ts.banks[(0 : BankIx)] index
  | .plan1 => planRecordBytes ts.banks[(1 : BankIx)] index
  | .station => stationBytes ts.stations[Fin.ofNat 8 index]
  | .settings => settingsBytes ts.settings

/-- The records `start`, `start + 1`, … of a table, `count` of them, as bytes in index order (R183). -/
def recordsBytes (ts : Tables) (t : TableId) (start count : Nat) : List Byte :=
  (List.range count).flatMap (fun k => recordBytes ts t (start + k))

/-- Cuts bytes into the records `start`, `start + 1`, … of a table and checks each (R189); none when one fails. -/
def entriesOfBytes (t : TableId) (start : Nat) : Nat → List Byte → Option (List Entry)
  | 0, _ => some []
  | n + 1, bytes =>
    match entryOfBytes t start (bytes.take (recordSize t start)),
      entriesOfBytes t (start + 1) n (bytes.drop (recordSize t start)) with
    | some e, some es => some (e :: es)
    | _, _ => none

/-- The sizes of the records a start index and count name, summed (R205). -/
def recordsSize (t : TableId) (start count : Nat) : Nat :=
  ((List.range count).map (fun k => recordSize t (start + k))).sum

/-- A staged record written into tables at its index (R195). -/
def writeEntry (ts : Tables) : Entry → Tables
  | .door i r => { ts with doors := upd ts.doors i r }
  | .group g r => { ts with groups := upd ts.groups g r }
  | .header b r => { ts with banks := upd ts.banks b { ts.banks[b] with header := r } }
  | .step b k r => { ts with banks := upd ts.banks b { ts.banks[b] with steps := upd ts.banks[b].steps k r } }
  | .station n r => { ts with stations := upd ts.stations n r }
  | .settings r => { ts with settings := r }

/-- Staged records written in order over tables (R191, R195). -/
def writeEntries (ts : Tables) (es : List Entry) : Tables := es.foldl writeEntry ts

/-! ## The launch cross-check (R191) -/

/-- The latest position in the staging area of an entry that wrote an involved record (R191). -/
def lastPosition (involved : Entry → Bool) (es : List Entry) : Option Nat :=
  (es.zipIdx.filter (fun p => involved p.1)).getLast?.map (fun p => p.2)

/-- Whether an entry writes door record `i`. -/
def Entry.isDoor (i : DoorIx) : Entry → Bool
  | .door j _ => j = i
  | _ => false

/-- Whether an entry writes group record `g`. -/
def Entry.isGroup (g : GroupIx) : Entry → Bool
  | .group h _ => h = g
  | _ => false

/-- Whether an entry writes the header of bank `b`. -/
def Entry.isHeader (b : BankIx) : Entry → Bool
  | .header c _ => c = b
  | _ => false

/-- Whether an entry writes the settings record. -/
def Entry.isSettings : Entry → Bool
  | .settings _ => true
  | _ => false

/-- Whether an entry's table is plan bank `b` (R192). -/
def Entry.inBank (b : BankIx) : Entry → Bool
  | .header c _ => c = b
  | .step c _ _ => c = b
  | _ => false

/-- Door `i` is present and names a group that is not (R191). -/
def doorGroupFails (ts : Tables) (i : DoorIx) : Bool :=
  ts.doors[i].present && !ts.groups[ts.doors[i].group].present

/-- The cross-check of tables after the staged records, in the order of R191: none when it passes, else the reason
and the staged position. -/
def crossCheck (ts : Tables) (es : List Entry) : Option (CheckReason × Option Nat) :=
  match allDoors.find? (doorGroupFails ts) with
  | some i => some (.doorGroup, lastPosition (fun e => e.isDoor i || e.isGroup ts.doors[i].group) es)
  | none =>
    match [(0 : BankIx), 1].find? (fun b => decide (15 < ts.banks[b].header.firstStep)) with
    | some b => some (.firstStep, lastPosition (fun e => e.isHeader b) es)
    | none =>
      if ts.settings.windowMax ≤ ts.settings.windowMin then some (.cycleWindow, lastPosition Entry.isSettings es)
      else none

/-! ## The store image (R198, R208) -/

/-- The tables in the order of the image (R185, R208). -/
def imageOrder : List TableId := [.door, .group, .plan0, .plan1, .station, .settings]

/-- The record bytes of the image: the 71 live records in order (R208). -/
def imageRecords (ts : Tables) : List Byte := imageOrder.flatMap (fun t => recordsBytes ts t 0 (tableRecords t))

/-- The store image of tables: format mark 5A31 hex, record count 71, records, CRC (R208). -/
def imageBytes (ts : Tables) : List Byte := withCrc ([0x5A#8, 0x31#8, 0x47#8] ++ imageRecords ts)

/-- Cuts the record bytes of an image into its entries; none when one fails its range check. -/
def imageEntriesFrom : List TableId → List Byte → Option (List Entry)
  | [], bytes => if bytes = [] then some [] else none
  | t :: ts, bytes =>
    let size := recordsSize t 0 (tableRecords t)
    match entriesOfBytes t 0 (tableRecords t) (bytes.take size), imageEntriesFrom ts (bytes.drop size) with
    | some es, some rest => some (es ++ rest)
    | _, _ => none

/-- The 71 entries of a good image (R198): CRC, format mark, record count, range checks and cross-check all hold. -/
def goodImage (bytes : List Byte) : Option (List Entry) :=
  match checkCrc bytes with
  | some (0x5A#8 :: 0x31#8 :: 0x47#8 :: records) =>
    match imageEntriesFrom imageOrder records with
    | some es => if (crossCheck (writeEntries Tables.empty es) es).isNone then some es else none
    | none => none
  | _ => none

end Sys2Proof.Machine
end

