-- ==== Sys2Proof/Machine/Frames.lean ====
section
/-! DEFINITION. Frames.lean: the layouts of loop frames, node frame payloads and line exchanges (R204 to R207). -/

-- One declaration is checked after another, so that no worker threads pile up on a large machine.
set_option Elab.async false

namespace Sys2Proof.Machine

open Sys2Proof

/-! ## The loop frame (R155, R204) -/

/-- A good loop frame's fields (R204). -/
structure LoopFrame where
  dest : Byte
  src : Byte
  kind : Byte
  cycle : Byte
  payload : List Byte
  deriving DecidableEq, Repr

/-- The frame in a run of received bytes, when it passes the port's check (R155): header and CRC present, a length
field of at most 240 that is the number of payload bytes received, and a matching CRC. -/
def frameOfBytes (bytes : List Byte) : Option LoopFrame :=
  match checkCrc bytes with
  | some (dest :: src :: kind :: cycle :: len :: payload) =>
    if len.toNat ≤ Config.maxPayload ∧ len.toNat = payload.length then
      some { dest := dest, src := src, kind := kind, cycle := cycle, payload := payload }
    else none
  | _ => none

/-- A loop frame's bytes (R204). -/
def frameBytes (dest src kind cycle : Nat) (payload : List Byte) : List Byte :=
  withCrc ([byteOf dest, byteOf src, byteOf kind, byteOf cycle, byteOf payload.length] ++ payload)

/-! ## Codes (R206) -/

/-- The code of an outcome (R206). -/
def outcomeCode : OrderOutcome → Nat
  | .done => 0x00
  | .pending => 0x01
  | .granted => 0x02
  | .denied => 0x03
  | .timeout => 0x04
  | .superseded => 0x05
  | .removed => 0x06
  | .noRight => 0x07
  | .noAuthority => 0x08
  | .noDoor => 0x09
  | .badMode => 0x0A
  | .badState => 0x0B
  | .badScheme => 0x0C
  | .faulted => 0x0D
  | .manual => 0x0E
  | .planRunning => 0x0F
  | .notRunning => 0x10
  | .notSuspended => 0x11
  | .transferBusy => 0x12
  | .notHolder => 0x13
  | .noPending => 0x14
  | .range => 0x15
  | .stagingOwned => 0x16
  | .stagingFull => 0x17
  | .stagingBusy => 0x18
  | .nothingStaged => 0x19
  | .checkFailed => 0x1A
  | .saveBusy => 0x1B
  | .storeFault => 0x1C

/-- The code of a failed check's reason (R206). -/
def reasonCode : CheckReason → Nat
  | .doorGroup => 1
  | .firstStep => 2
  | .cycleWindow => 3

/-- The code of a line state (R206). -/
def lineCode : LineState → Nat
  | .good => 0
  | .missed1 => 1
  | .missed2 => 2
  | .lost => 3

/-- The code of a door state (R206). -/
def doorStateCode : DoorState → Nat
  | .absent => 0
  | .unknown => 1
  | .closed => 2
  | .opened => 3
  | .stopped => 4
  | .warning => 5
  | .queued => 6
  | .closing => 7
  | .opening => 8
  | .recloseWait => 9
  | .fault => 10

/-- The code of a fault cause (R206). -/
def causeCode : FaultCause → Nat
  | .limits => 0
  | .closeOvertime => 1
  | .openOvertime => 2
  | .unit => 3

/-- The code of an origin (R206). -/
def originCode : Origin → Nat
  | .remote => 0
  | .plan => 1
  | .reclose => 2
  | .localCtl => 3

/-- The code of a supply (R206, R207). -/
def supplyCode : Supply → Nat
  | .main => 0
  | .emergency => 1
  | .accumulator => 2
  | .failed => 3

/-- The code of a loop state (R206). -/
def loopCode : LoopState → Nat
  | .silent => 0
  | .good => 1
  | .lost => 2

/-- The code of a contact state (R206). -/
def contactCode : Contact → Nat
  | .waiting => 0
  | .connected => 1
  | .isolated => 2

/-- The code of a plan engine state (R206). -/
def engineCode : EngineState → Nat
  | .idle => 0
  | .running _ => 1
  | .suspended _ => 2
  | .done => 3

/-- The code of a pending launch (R206). -/
def launchCode : Option LaunchMode → Nat
  | none => 0
  | some .now => 1
  | some .atCycle => 2

/-- The code of the store engine's state (R206). -/
def storeCode : StoreEngine → Nat
  | .idle => 0
  | .saving => 1
  | .loading => 2

/-- The code of the last save outcome (R206). -/
def saveCode : SaveOutcome → Nat
  | .none => 0
  | .ok => 1
  | .writeFault => 2

/-- The code of a reset cause (R206). -/
def resetCode : ResetCause → Nat
  | .power => 1
  | .line => 2
  | .order => 3

/-- A slot's byte, FF for none (R206). -/
def slotByte : Option Slot → Byte
  | some n => byteOf n.val
  | none => 0xFF#8

/-! ## Node frame payloads (R206) -/

/-- The seven bytes of a door in a SECTION-REPORT (R206). -/
def snapDoorBytes (d : SnapDoor) : List Byte :=
  [byteOf (doorStateCode d.state * 16 + causeCode d.faultCause * 4 + originCode d.origin),
    byteOf (flag (d.queuedDir = .open) * 128 + lineCode d.line * 32 + flag d.faultLatched * 16 + flag d.slow * 8
      + flag d.manual * 4 + flag d.passage * 2 + flag d.seaOpenHeld),
    byteOf (flag d.inhibited * 128 + flag d.localRefused * 64 + flag d.changed * 32)]
    ++ enc16 d.lastClose ++ enc16 d.lastOpen

/-- The seven bytes of a group in a SECTION-REPORT (R206). -/
def snapGroupBytes (g : SnapGroup) : List Byte :=
  [byteOf (flag g.present * 128 + supplyCode g.supply * 32 + lineCode g.line * 8 + flag g.heldFlag * 4
      + flag g.pump * 2),
    byteOf (g.capClose * 16 + g.capOpen), byteOf g.inUse, byteOf g.queueLength,
    match g.heldTemp with
    | some t => byteOfInt t
    | none => 0x80#8]
    ++ enc16 g.tf

/-- The nineteen section bytes of a SECTION-REPORT (R206). -/
def snapSectionBytes (s : Snapshot) : List Byte :=
  [byteOf s.sectionNumber,
    byteOf (flag (s.mode = .sea) * 128 + contactCode s.contact * 32 + flag (s.activeLoop = .b) * 16
      + loopCode s.loopA * 4 + loopCode s.loopB)]
    ++ encInt16 s.heldHeel
    ++ [byteOf (engineCode s.engine * 64 + flag (s.activeBank = 1) * 32),
      match s.currentStep with
      | some k => byteOf k.val
      | none => 0xFF#8,
      byteOf (flag s.result.notClosed * 128 + flag s.result.overrun * 64 + flag s.result.linkFault * 32
        + flag s.result.aborted * 16),
      byteOf s.result.stepsVisited]
    ++ enc16 s.result.doorsNotClosed
    ++ [slotByte s.holder, slotByte s.pendingRequester, byteOf s.stagingCount, slotByte s.stagingOwner,
      byteOf (launchCode s.launchPending * 64 + storeCode s.storeEngine * 16 + saveCode s.lastSave * 4
        + flag s.tablesFromStore * 2 + flag s.individual),
      byteOf (resetCode s.resetCause), byteOf s.badFramesA, byteOf s.badFramesB,
      byteOf (flag s.overflowA * 128 + flag s.overflowB * 64 + flag s.responseLost * 32)]

/-- The 215-byte payload of a SECTION-REPORT (R206). -/
def snapshotBytes (s : Snapshot) : List Byte :=
  s.doors.flatMap snapDoorBytes ++ s.groups.flatMap snapGroupBytes ++ snapSectionBytes s

/-- The 6-byte payload of an ORDER-RESULT (R206). -/
def orderResultBytes (r : OrderResult) : List Byte :=
  [r.kind, r.action, r.door, byteOf (outcomeCode r.outcome),
    match r.position with
    | some p => byteOf p
    | none => 0xFF#8,
    match r.reason with
    | some c => byteOf (reasonCode c)
    | none => 0#8]

/-- The payload of a TABLE-DATA (R206). -/
def tableDataBytes (d : TableData) : List Byte :=
  [byteOf (tableCode d.table), byteOf d.start, byteOf d.count] ++ d.records

/-- A node frame on the ring, with the node's own address as source (R121, R181, R183, R204). -/
def NodeFrame.bytes (own : Nat) : NodeFrame → List Byte
  | .sectionReport cycle snap => frameBytes Config.broadcast own 0x41 cycle (snapshotBytes snap)
  | .orderResult r => frameBytes (slotAddress r.dest) own 0x42 r.cycle (orderResultBytes r)
  | .tableData d => frameBytes (slotAddress d.dest) own 0x43 d.cycle (tableDataBytes d)

/-- What a transmitter puts on its ring: a passed-on frame as it arrived, or the node's own frame (R156, R162). -/
def TxFrame.bytes (own : Nat) : TxFrame → List Byte
  | .through bytes => bytes
  | .own f => f.bytes own

/-! ## Line exchanges (R207) -/

/-- A side control's level, when its code is assigned (R207). -/
def levelOfCode (code : Nat) : Option Level :=
  if code = 0 then some .none else if code = 1 then some .open else if code = 2 then some .close else none

/-- A unit fault, when its code is assigned (R207). -/
def unitFaultOfCode (code : Nat) : Option UnitFault :=
  if code = 0 then some .none else if code = 1 then some .valve else if code = 2 then some .supply
  else if code = 3 then some .sensor else none

/-- The supply of a code; all four codes are assigned (R207). -/
def supplyOfCode (code : Nat) : Supply :=
  if code = 0 then .main else if code = 1 then .emergency else if code = 2 then .accumulator else .failed

/-- A good door REPORT in a reply (R141, R207); none for a damaged one. -/
def doorReportOfBytes (bytes : List Byte) : Option DoorReport :=
  match checkCrc bytes with
  | some [b0, b1] =>
    match levelOfCode (field b0 3 2), levelOfCode (field b0 1 2), unitFaultOfCode b1.toNat with
    | some a, some b, some f =>
      some { closedLimit := bit b0 7, openLimit := bit b0 6, sideA := a, sideB := b, handPump := bit b0 5,
             unitFault := f }
    | _, _, _ => none
  | _ => none

/-- A good group REPORT in a reply (R141, R207); none for a damaged one. -/
def groupReportOfBytes (bytes : List Byte) : Option GroupReport :=
  match checkCrc bytes with
  | some [b0, b1] =>
    some { supply := supplyOfCode (field b0 6 2), temperature := b1.toInt, tempValid := bit b0 5, pump := bit b0 4 }
  | _ => none

/-- The drive code a door state calls for: STOP 0, CLOSE 1, OPEN 2 (R6, R207). -/
def driveCode : DoorState → Nat
  | .closing => 1
  | .opening => 2
  | .absent => 0
  | .unknown => 0
  | .closed => 0
  | .opened => 0
  | .stopped => 0
  | .warning => 0
  | .queued => 0
  | .recloseWait => 0
  | .fault => 0

/-- The warning code a door's state calls for: OFF 0, FLASH 1, STEADY 2 (R6, R207). -/
def warningCode (d : DoorRuntime) : Nat :=
  match d.state with
  | .warning => 1
  | .queued => if d.queuedDir = .close then 1 else 0
  | .closing => 2
  | .opening => 2
  | .absent => 0
  | .unknown => 0
  | .closed => 0
  | .opened => 0
  | .stopped => 0
  | .recloseWait => 0
  | .fault => 0

/-- The byte of a door POLL: STOP and OFF during start-up, else the door's drive and warning, with the beat phase as it
stands (R6, R140, R207). -/
def State.doorPoll (s : State) (i : DoorIx) : Byte :=
  byteOf ((if s.handsOn then driveCode s.doors[i].state * 64 + warningCode s.doors[i] * 16 else 0)
    + flag s.beatOn * 8)

/-- The byte of a group POLL, which carries no order (R140, R207). -/
def groupPoll : Byte := 0#8

/-- A POLL on the line: its byte and its CRC (R207). -/
def pollBytes (b : Byte) : List Byte := withCrc [b]

end Sys2Proof.Machine
end

