-- ==== Sys2Proof/Machine/Ports.lean ====
section
/-! DEFINITION. Ports.lean: the forward buffer, the insertion queue, the transmit arbiter, and the placing of node
frames and order answers (R121, R159 to R162). -/

-- One declaration is checked after another, so that no worker threads pile up on a large machine.
set_option Elab.async false

namespace Sys2Proof.Machine

open Sys2Proof

/-! ## The transmit arbiter (R162) -/

/-- The arbiter's choice for an idle transmitter: the first row of R162 that holds. -/
def Port.arbitrate (p : Port) : Port :=
  match p.forward, p.insertion with
  | [], [] => { p with sending := none }
  | [], f :: rest => { p with sending := some (.own f), insertion := rest, fairness := 0 }
  | x :: xs, [] => { p with sending := some (.through x), forward := xs, fairness := 0 }
  | x :: xs, f :: rest =>
    if Config.fairnessLimit ≤ p.fairness then
      { p with sending := some (.own f), insertion := rest, fairness := 0 }
    else { p with sending := some (.through x), forward := xs, fairness := p.fairness + 1 }

/-- A frame that joins while the transmitter is idle is started at once (R162). -/
def Port.kick (p : Port) : Port := if p.sending.isNone then p.arbitrate else p

/-- The end of a sending: the arbiter chooses the next frame (R162). -/
def Port.endSending (p : Port) : Port := if p.sending.isSome then p.arbitrate else p

/-- A good frame joins the forward buffer, or is dropped with the forward-overflow flag set (R159). -/
def Port.passOn (p : Port) (bytes : List Byte) : Port :=
  if Config.forwardDepth ≤ p.forward.length then { p with overflow := true }
  else Port.kick { p with forward := p.forward ++ [bytes] }

/-! ## The insertion queue (R160, R161) -/

/-- Whether a node frame is a SECTION-REPORT. -/
def NodeFrame.isReport : NodeFrame → Bool
  | .sectionReport _ _ => true
  | .orderResult _ => false
  | .tableData _ => false

/-- An ORDER-RESULT or TABLE-DATA placed in one queue, unless it holds 4 frames (R161). -/
def Port.placeResult (p : Port) (f : NodeFrame) : Port :=
  if p.insertion.length < Config.insertionDepth then Port.kick { p with insertion := p.insertion ++ [f] } else p

/-- A SECTION-REPORT placed in one queue: an unsent older report is discarded and its place taken, or the tail when
`tail` says that the event has already placed another frame in this queue; a queue of 4 other frames drops it (R161). -/
def Port.placeReport (p : Port) (f : NodeFrame) (tail : Bool) : Port :=
  if p.insertion.any NodeFrame.isReport then
    if tail then { p with insertion := p.insertion.filter (fun x => !x.isReport) ++ [f] }
    else { p with insertion := p.insertion.map (fun x => if x.isReport then f else x) }
  else if p.insertion.length < Config.insertionDepth then Port.kick { p with insertion := p.insertion ++ [f] }
  else p

/-- Whether a placed result would be dropped by a queue (R161). -/
def Port.insertionFull (p : Port) : Bool := Config.insertionDepth ≤ p.insertion.length

/-- An ORDER-RESULT or TABLE-DATA placed in both queues; a drop in either sets the response-lost flag (R160, R161). No
frame is placed in start-up, under an address fault or in the restart wait (R160, R203). -/
def State.placeResult (s : State) (f : NodeFrame) : State :=
  if s.actsOnFrames then
    { s with
      ports := { a := s.ports.a.placeResult f, b := s.ports.b.placeResult f }
      responseLost := s.responseLost || s.ports.a.insertionFull || s.ports.b.insertionFull }
  else s

/-! ## Answers (R121, R122) -/

/-- What an ORDER-RESULT echoes of its order: the kind code, the action or sub-order, the door index (R206). -/
structure OrderTag where
  kind : Byte
  action : Byte
  door : Byte
  deriving DecidableEq, Repr

/-- The tag of a DOOR-ORDER (R205). -/
def OrderTag.doorOrder (action door : Byte) : OrderTag := { kind := 0x02#8, action := action, door := door }

/-- The tag of an order of another kind: FF for the door index (R206). -/
def OrderTag.other (kind action : Byte) : OrderTag := { kind := kind, action := action, door := 0xFF#8 }

/-- The tag of a SECTION-ORDER (R205). -/
def OrderTag.section_ (sub : Byte) : OrderTag := OrderTag.other 0x03#8 sub

/-- The tag of an AUTH-REQUEST (R205). -/
def OrderTag.authRequest (forced : Bool) : OrderTag := OrderTag.other 0x04#8 (if forced then 1#8 else 0#8)

/-- The tag of a LAUNCH (R205). -/
def OrderTag.launch : LaunchMode → OrderTag
  | .now => OrderTag.other 0x08#8 1#8
  | .atCycle => OrderTag.other 0x08#8 2#8

/-- The tag of a MANAGE-ORDER (R205). -/
def OrderTag.manage (sub : Byte) : OrderTag := OrderTag.other 0x0B#8 sub

/-- The ORDER-RESULT to a station, with the last cycle number (R121, R172). -/
def State.resultFrame (s : State) (n : Slot) (t : OrderTag) (o : OrderOutcome) : OrderResult :=
  { dest := n, cycle := s.lastCycle, kind := t.kind, action := t.action, door := t.door, outcome := o,
    position := none, reason := none }

/-- An ORDER-RESULT placed for a station (R121). -/
def State.answer (s : State) (n : Slot) (t : OrderTag) (o : OrderOutcome) : State :=
  s.placeResult (.orderResult (s.resultFrame n t o))

/-- A CHECK-FAILED placed for the sender of a launch, with its position and reason (R191, R192). -/
def State.answerCheck (s : State) (n : Slot) (m : LaunchMode) (reason : CheckReason) (position : Option Nat) : State :=
  s.placeResult (.orderResult { s.resultFrame n (OrderTag.launch m) .checkFailed with
    position := position, reason := some reason })

/-- The order decoder's first two steps for an order of a station: an order of a sender without standing, or one that
the node does not act on, has no effect and no result (R116, R154, R158, R203); one whose sender lacks what it needs
is refused (R117, step 2); else its owner takes it. -/
def State.takeOrder (s : State) (src : Byte) (t : OrderTag) (need : Need) (owner : Slot → State) : State :=
  if s.actsOnFrames then
    match slotOf src with
    | none => s
    | some n =>
      if hasStanding s.tables n then
        match s.rightsRefusal n need with
        | some o => s.answer n t o
        | none => owner n
      else s
  else s

end Sys2Proof.Machine
end

