-- ==== Sys2Proof/Machine/Timing.lean ====
section
/-! DEFINITION. Timing.lean: the computations of travel timing: the clamped heel and temperature, Tf, the effective
heel, Hf, the expected time E and the deadline D (R74 to R84). -/

-- One declaration is checked after another, so that no worker threads pile up on a large machine.
set_option Elab.async false

namespace Sys2Proof.Machine

open Sys2Proof

/-- A heel clamped to −300..+300 tenths of a degree (R74). -/
def clampHeel (h : Int) : Int := max (-300) (min 300 h)

/-- A temperature clamped to −40..+100 °C (R76). -/
def clampTemp (t : Int) : Int := max (-40) (min 100 t)

/-- The temperature factor from the held temperature, T_ref and the coefficient (R79). -/
def temperatureFactor (held : Option Int) (tRef coefficient : Nat) : Nat :=
  match held with
  | none => 256
  | some t =>
    let d := ((tRef : Int) - t).toNat
    min Config.maxFactor (256 + coefficient * d * d / 256)

/-- The effective heel of a motion, none for a door with no heel term (R81). -/
def effectiveHeel (o : Orientation) (dir : Dir) (h : Int) : Option Int :=
  match o, dir with
  | .stbdToPort, .close => some h
  | .stbdToPort, .open => some (-h)
  | .portToStbd, .close => some (-h)
  | .portToStbd, .open => some h
  | .vertical, _ => none
  | .longitudinal, _ => none

/-- The heel factor of an effective heel: the first row of R82 that holds. -/
def heelFactor (r : GroupRecord) (e : Int) : Nat :=
  if e ≤ r.heelLo then 256
  else if r.heelHi ≤ r.heelLo then r.hMax
  else if (r.heelHi : Int) ≤ e then r.hMax
  else 256 + (r.hMax - 256) * (e - r.heelLo).toNat / (r.heelHi - r.heelLo)

/-- Hf of a motion (R81, R82). -/
def motionFactor (d : DoorRecord) (g : GroupRecord) (dir : Dir) (h : Int) : Nat :=
  match effectiveHeel d.orientation dir h with
  | none => 256
  | some e => heelFactor g e

/-- The nominal for a direction of travel (R83). -/
def nominal (d : DoorRecord) : Dir → Nat
  | .close => d.closeNominal
  | .open => d.openNominal

/-- E: N × Tf × Hf divided by 65,536, rounded up (R84). -/
def expectedTime (n tf hf : Nat) : Nat := (n * tf * hf + 65535) / 65536

/-- D: E + margin, at most 4095 (R84). -/
def deadlineOf (e margin : Nat) : Nat := min Config.maxTravel (e + margin)

/-- E of a door admitted against a group, from the state at the admission (R83). -/
def State.admissionTime (s : State) (i : DoorIx) (g : GroupIx) (dir : Dir) : Nat :=
  expectedTime (nominal s.tables.doors[i] dir) s.groups[g].tf
    (motionFactor s.tables.doors[i] s.tables.groups[g] dir s.heldHeel)

/-- A counter stopped at its value (R85). -/
def Counter.stop (c : Counter) : Counter := { c with running := false }

/-- A counter counting up, or down to 0, by one tenth while it runs (R85). -/
def Counter.up (c : Counter) : Counter := if c.running then { c with value := c.value + 1 } else c

/-- See `Counter.up`. -/
def Counter.down (c : Counter) : Counter := if c.running then { c with value := c.value - 1 } else c

/-- Whether a running counter has reached 0 (R87). -/
def Counter.expired (c : Counter) : Bool := c.running && c.value = 0

end Sys2Proof.Machine
end

