-- ==== Sys2Proof/Machine/Ops.lean ====
section
/-! DEFINITION. Ops.lean: the shared operations of one event. An event works on a `Work`: the state with what the
event still owes (claims to join, queues to re-examine, doors due the sea reclose rule, a settled step to follow up, an
ended run). Event.lean pays the debts. Here stand the door's record write, claims, held loads, cancellation, faults,
rest by limits, withdrawal, the close order, RECLOSE-WAIT and the sea reclose rule. -/

-- One declaration is checked after another, so that no worker threads pile up on a large machine.
set_option Elab.async false

namespace Sys2Proof.Machine

open Sys2Proof

/-- A state in the middle of an event, and what the event owes: `joins`, doors whose raised claim is still to join its
queue (in ascending door index, R59); `dirty`, groups whose queue is due its re-examination once the event's changes are
made (R64); `due`, doors due the sea reclose rule (R30); `check`, a mark of the current step was set or a step entered
(R103); `ended`, the engine left a run (R111). -/
structure Work where
  st : State
  joins : DoorSet
  dirty : GroupSet
  due : DoorSet
  check : Bool
  ended : Bool
  deriving DecidableEq, Repr

/-- An event's start: nothing owed. -/
def Work.start (s : State) : Work := { st := s, joins := 0, dirty := 0, due := 0, check := false, ended := false }

/-- Whether an event owes nothing. -/
def Work.quiet (w : Work) : Bool := w.joins == 0 && w.dirty == 0 && w.due == 0 && !w.check && !w.ended

/-- The runtime record of a door. -/
def Work.door (w : Work) (i : DoorIx) : DoorRuntime := w.st.doors[i]

/-- Group `g`'s queue is due its re-examination (R64). -/
def Work.touch (w : Work) (g : GroupIx) : Work := { w with dirty := w.dirty ||| groupBit g }

/-- Door `i` is due the sea reclose rule (R30). -/
def Work.dueReclose (w : Work) (i : DoorIx) : Work := { w with due := w.due ||| doorBit i }

/-- An ORDER-RESULT placed within an event (R121). -/
def Work.answer (w : Work) (n : Slot) (t : OrderTag) (o : OrderOutcome) : Work := { w with st := w.st.answer n t o }

/-! ## Settled marks (R101 to R103) -/

/-- A result record with one settlement counted: only a settlement other than closed counts (R102). -/
def PlanResult.count (r : PlanResult) : Mark → PlanResult
  | .notClosed => { r with notClosed := true, doorsNotClosed := r.doorsNotClosed + 1 }
  | .closed => r
  | .unsettled => r

/-- Sets the mark of an unsettled door of the current step while the engine is RUNNING (R103); a mark once settled is
not changed again, and a door outside the step has none. -/
def Work.settle (w : Work) (i : DoorIx) (m : Mark) : Work :=
  match w.st.plan.engine with
  | .running _ =>
    if w.st.plan.marks[i] = some .unsettled then
      { w with
        st := { w.st with plan := { w.st.plan with
          marks := upd w.st.plan.marks i (some m), result := w.st.plan.result.count m } }
        check := true }
    else w
  | .idle => w
  | .suspended _ => w
  | .done => w

/-- The record of a step of the running bank; none when no run is recorded. -/
def State.runStep (s : State) (k : StepIx) : Option PlanStep := s.plan.runningBank.map (fun b => s.tables.banks[b].steps[k])

/-- The wait of the step the engine runs. -/
def State.currentWait (s : State) : WaitKind :=
  match s.plan.engine with
  | .running k => ((s.runStep k).map PlanStep.wait).getD .closed
  | .suspended k => ((s.runStep k).map PlanStep.wait).getD .closed
  | .idle => .closed
  | .done => .closed

/-! ## A door's record -/

/-- Writes a door's runtime record: the changed flag follows from the change (R5), and a change of state is handed to
the plan engine (R103). -/
def Work.put (w : Work) (i : DoorIx) (d : DoorRuntime) : Work :=
  let old := w.door i
  let w1 := { w with st := { w.st with doors := upd w.st.doors i (d.markChanged old) } }
  if d.state = old.state then w1
  else
    match markOnEntry w.st.currentWait d.state with
    | some m => w1.settle i m
    | none => w1

/-- A door's runtime record rewritten by a function of it. -/
def Work.modify (w : Work) (i : DoorIx) (f : DoorRuntime → DoorRuntime) : Work := w.put i (f (w.door i))

/-! ## Claims (R58 to R61) -/

/-- The group named by a door's record. -/
def Work.groupOf (w : Work) (i : DoorIx) : GroupIx := w.st.tables.doors[i].group

/-- The runtime record of a group replaced. -/
def Work.setGroup (w : Work) (g : GroupIx) (r : GroupRuntime) : Work :=
  { w with st := { w.st with groups := upd w.st.groups g r } }

/-- The queue of a group replaced. -/
def Work.setQueue (w : Work) (g : GroupIx) (q : List Claim) : Work :=
  w.setGroup g { w.st.groups[g] with queue := q }

/-- A claim placed at the tail of its class: after the last closing claim, or after the last claim (R59). -/
def joinQueue (q : List Claim) (c : Claim) : List Claim :=
  match c.dir with
  | .close => q.takeWhile (fun x => x.dir = .close) ++ c :: q.dropWhile (fun x => x.dir = .close)
  | .open => q ++ [c]

/-- Door `i`'s claim joins the queue of group `g`, which is then due its re-examination (R60, R64). -/
def Work.join (w : Work) (i : DoorIx) (g : GroupIx) : Work :=
  (w.setQueue g (joinQueue w.st.groups[g].queue { door := i, dir := (w.door i).queuedDir })).touch g

/-- A door enters QUEUED in a direction and raises its claim (R60); the claim joins when the event's changes are
made. -/
def Work.raise (w : Work) (i : DoorIx) (dir : Dir) : Work :=
  let w1 := w.modify i (fun d => { d with state := .queued, queuedDir := dir })
  { w1 with joins := w1.joins ||| doorBit i }

/-- A door enters QUEUED with an origin (R11, R27, R39, R43). -/
def Work.queue (w : Work) (i : DoorIx) (dir : Dir) (o : Origin) : Work :=
  (w.modify i (fun d => { d with origin := o })).raise i dir

/-- Door `i`'s claim leaves its queue without admission (R61): only the removal of a head calls for a
re-examination. -/
def Work.unclaim (w : Work) (i : DoorIx) : Work :=
  if inSet w.joins i then { w with joins := w.joins &&& ~~~(doorBit i) }
  else
    let g := w.groupOf i
    let q := w.st.groups[g].queue
    let w1 := w.setQueue g (q.filter (fun c => c.door ≠ i))
    if q.head?.map Claim.door = some i then w1.touch g else w1

/-! ## Held loads (R66, R67) -/

/-- A door's held load is released: in-use of the recorded group falls and the load is absent (R67). -/
def Work.release (w : Work) (i : DoorIx) : Work :=
  match (w.door i).heldLoad with
  | none => w
  | some (g, units) =>
    let w1 := w.modify i (fun d => { d with heldLoad := none })
    (w1.setGroup g { w1.st.groups[g] with inUse := w1.st.groups[g].inUse - units }).touch g

/-- Both travel counters of a door stopped (R85). -/
def DoorRuntime.stopTravel (d : DoorRuntime) : DoorRuntime :=
  { d with deadline := d.deadline.stop, travel := d.travel.stop }

/-! ## Cancellation, faults, rest and withdrawal (R8 to R10) -/

/-- Cancels a door's current activity (R9). -/
def Work.cancel (w : Work) (i : DoorIx) : Work :=
  match (w.door i).state with
  | .queued => w.unclaim i
  | .warning => w.modify i (fun d => { d with timer := none })
  | .recloseWait => w.modify i (fun d => { d with timer := none })
  | .closing => (w.modify i DoorRuntime.stopTravel).release i
  | .opening => (w.modify i DoorRuntime.stopTravel).release i
  | .absent => w
  | .unknown => w
  | .closed => w
  | .opened => w
  | .stopped => w
  | .fault => w

/-- A door enters FAULT with a cause: its activity is cancelled, the latch set, the passage clear (R15, R17, R18). -/
def Work.enterFault (w : Work) (i : DoorIx) (c : FaultCause) : Work :=
  (w.cancel i).modify i (fun d => { d with state := .fault, faultCause := c, faultLatched := true, passage := false })

/-- A door enters CLOSED: its sea-open held flag clears (R32). -/
def Work.enterClosed (w : Work) (i : DoorIx) : Work :=
  w.modify i (fun d => { d with state := .closed, seaOpenHeld := false })

/-- Puts a door to rest by the limits of its held report (R8). Log entry 8: with no held report it is UNKNOWN. -/
def Work.rest (w : Work) (i : DoorIx) : Work :=
  match w.st.doorLines[i].held with
  | none => w.modify i (fun d => { d with state := .unknown })
  | some r =>
    if r.conflicting then w.enterFault i .limits
    else if r.closedLimit then w.enterClosed i
    else (w.modify i (fun d => { d with state := r.restState })).dueReclose i

/-- Withdraws a door: cancels its activity and puts it to rest by limits; a door in FAULT, UNKNOWN or ABSENT stays as
it is (R10). -/
def Work.withdraw (w : Work) (i : DoorIx) : Work :=
  match (w.door i).state with
  | .fault => w
  | .unknown => w
  | .absent => w
  | .closed => (w.cancel i).rest i
  | .opened => (w.cancel i).rest i
  | .stopped => (w.cancel i).rest i
  | .warning => (w.cancel i).rest i
  | .queued => (w.cancel i).rest i
  | .closing => (w.cancel i).rest i
  | .opening => (w.cancel i).rest i
  | .recloseWait => (w.cancel i).rest i

/-! ## Closing and reclosing (R3, R11, R30, R31) -/

/-- The pre-warning time of a door (R3). -/
def State.preWarningTime (s : State) (i : DoorIx) : Nat := s.tables.doors[i].preWarning.getD s.tables.settings.preWarning

/-- The reclose delay of a door (R3). -/
def State.recloseTime (s : State) (i : DoorIx) : Nat := s.tables.doors[i].recloseDelay.getD s.tables.settings.recloseDelay

/-- "Enter closing" (R11), the door's activity cancelled and its sea-open held flag clear: WARNING with its timer when
the order carries pre-warning and the time is above 0, else QUEUED(close). -/
def Work.enterClosing (w : Work) (i : DoorIx) (o : Origin) (preWarn : Bool) : Work :=
  let w1 := (w.cancel i).modify i (fun d => { d with seaOpenHeld := false })
  let t := w.st.preWarningTime i
  if preWarn ∧ 0 < t then w1.modify i (fun d => { d with state := .warning, timer := some t, origin := o })
  else w1.queue i .close o

/-- Whether a close order has no effect at all: passage active, FAULT, UNKNOWN, ABSENT or manual (R11, last rows). -/
def DoorRuntime.closeBarred (d : DoorRuntime) : Bool :=
  d.passage || d.manual || d.state = .fault || d.state = .unknown || d.state = .absent

/-- Whether a close order finds the door at CLOSED or already closing (R11). -/
def DoorRuntime.alreadyClosing (d : DoorRuntime) : Bool :=
  d.state = .closed || d.state = .warning || d.state = .closing || (d.state = .queued && d.queuedDir = .close)

/-- A close order taken on a door (R11). -/
def Work.closeOrder (w : Work) (i : DoorIx) (o : Origin) (preWarn : Bool) : Work :=
  if (w.door i).closeBarred then w
  else if (w.door i).alreadyClosing then w.modify i (fun d => { d with seaOpenHeld := false })
  else w.enterClosing i o preWarn

/-- A door enters RECLOSE-WAIT with its delay and origin RECLOSE; a delay of 0 expires at once, and the close order of
R31 follows in the same event (R30, R44). DEDUCED, log entry 15: at the release of a passage that close order comes before
the press of CLOSE in the same report (R36, R45), which then finds the door in WARNING or QUEUED(close). -/
def Work.enterRecloseWait (w : Work) (i : DoorIx) : Work :=
  let t := w.st.recloseTime i
  let w1 := w.modify i (fun d => { d with state := .recloseWait, timer := some t, origin := .reclose })
  if t = 0 then w1.closeOrder i .reclose true else w1

/-- Whether a running or suspended plan has a door in hand: it is in the door set of a valid step of the running bank
(R30). -/
def State.planHolds (s : State) (i : DoorIx) : Bool :=
  let member := allSteps.any (fun k => match s.runStep k with
    | some r => r.valid && inSet r.doors i
    | none => false)
  match s.plan.engine with
  | .running _ => member
  | .suspended _ => member
  | .idle => false
  | .done => false

/-- Whether the conditions of the sea reclose rule hold of a door (R30). -/
def State.recloses (s : State) (i : DoorIx) : Bool :=
  s.mode = .sea && (s.doors[i].state = .opened || s.doors[i].state = .stopped) && !s.doors[i].passage
    && !s.doors[i].seaOpenHeld && !s.doors[i].manual && !s.planHolds i

/-- The sea reclose rule applied to a door (R30). -/
def Work.recloseRule (w : Work) (i : DoorIx) : Work := if w.st.recloses i then w.enterRecloseWait i else w

/-- The inhibited flag a door has by the scheme in force (R47). -/
def State.inhibitedNow (s : State) (i : DoorIx) : Bool :=
  inhibitedBy s.schemeFuse s.inhibitSet s.tables.settings i

/-- Every door's inhibited flag recomputed (R47). -/
def Work.recomputeInhibit (w : Work) : Work :=
  allDoors.foldl (fun w i => w.modify i (fun d => { d with inhibited := w.st.inhibitedNow i })) w

end Sys2Proof.Machine
end

