-- ==== Sys2Proof/Machine/Doors.lean ====
section
/-! DEFINITION. Doors.lean: the door machine: what a report, an expiry, a line loss, a local control and a remote order
do to a door (R14 to R29, R35 to R46, R86 to R89). -/

-- One declaration is checked after another, so that no worker threads pile up on a large machine.
set_option Elab.async false

namespace Sys2Proof.Machine

open Sys2Proof

/-! ## Travel (R14, R15, R86, R87) -/

/-- A travel completed: the travel timer captured for its direction, slow judged against E, both counters stopped, the
capture marked as a change (R5, R86). -/
def DoorRuntime.capture (d : DoorRuntime) (dir : Dir) : DoorRuntime :=
  let m := min Config.maxTravel d.travel.value
  { d.stopTravel with
    lastClose := if dir = .close then m else d.lastClose
    lastOpen := if dir = .open then m else d.lastOpen
    slow := decide (d.expected < d.travel.value)
    changed := true }

/-- A CLOSING door reported at its closed limit alone: the closing completes (R14). -/
def Work.completeClosing (w : Work) (i : DoorIx) : Work :=
  ((w.modify i (fun d => d.capture .close)).release i).enterClosed i

/-- An OPENING door reported at its open limit alone: the opening completes (R14). -/
def Work.completeOpening (w : Work) (i : DoorIx) : Work :=
  ((w.modify i (fun d => d.capture .open)).release i).modify i (fun d => { d with state := .opened })

/-- The deadline of a door reaches 0: overtime for a moving door (R15), the end of a held load for an UNKNOWN one
(R23). -/
def Work.deadlineEnd (w : Work) (i : DoorIx) : Work :=
  match (w.door i).state with
  | .closing => w.enterFault i .closeOvertime
  | .opening => w.enterFault i .openOvertime
  | .unknown => (w.modify i (fun d => { d with deadline := d.deadline.stop })).release i
  | .absent => w
  | .closed => w
  | .opened => w
  | .stopped => w
  | .warning => w
  | .queued => w
  | .recloseWait => w
  | .fault => w

/-! ## Line loss and recovery (R22, R24) -/

/-- A door loses its line: UNKNOWN, with its held load and its running deadline kept (R22, R89). -/
def Work.loseLine (w : Work) (i : DoorIx) : Work :=
  let w1 : Work :=
    match (w.door i).state with
    | .queued => w.unclaim i
    | .warning => w.modify i (fun d => { d with timer := none })
    | .recloseWait => w.modify i (fun d => { d with timer := none })
    | .closing => w.modify i (fun d => { d with travel := d.travel.stop })
    | .opening => w.modify i (fun d => { d with travel := d.travel.stop })
    | .absent => w
    | .unknown => w
    | .closed => w
    | .opened => w
    | .stopped => w
    | .fault => w
  if (w.door i).state = .absent then w else w1.modify i (fun d => { d with state := .unknown, passage := false })

/-- A good report recovers an UNKNOWN door: any held load is released, the deadline stops, and the door comes to rest
by limits (R24). -/
def Work.recover (w : Work) (i : DoorIx) : Work :=
  ((w.modify i (fun d => { d with deadline := d.deadline.stop })).release i).rest i

/-! ## Limits (R14, R19) -/

/-- The limits of a good report, without conflict, taken by the door's state (R14, R19). -/
def Work.takeLimits (w : Work) (i : DoorIx) (r : DoorReport) : Work :=
  let d := w.door i
  match d.state with
  | .closing => if r.closedAlone then w.completeClosing i else w
  | .opening => if r.openAlone then w.completeOpening i else w
  | .closed => if r.restState = .closed then w else w.rest i
  | .opened => if r.restState = .opened then w else w.rest i
  | .stopped => if r.restState = .stopped then w else w.rest i
  | .warning => if r.closedAlone then (w.cancel i).enterClosed i else w
  | .recloseWait => if r.closedAlone then (w.cancel i).enterClosed i else w
  | .queued =>
    if d.queuedDir = .close then (if r.closedAlone then (w.cancel i).enterClosed i else w)
    else if r.openAlone then (w.cancel i).modify i (fun d => { d with state := .opened }) else w
  | .absent => w
  | .unknown => w
  | .fault => w

/-! ## Local controls (R35 to R46, R52) -/

/-- Whether a door takes local requests: not in FAULT, UNKNOWN or ABSENT, and not manual (R37). -/
def DoorRuntime.takesLocal (d : DoorRuntime) : Bool :=
  !d.manual && d.state != .fault && d.state != .unknown && d.state != .absent

/-- The local refused flag set (R52). -/
def Work.refuseLocal (w : Work) (i : DoorIx) : Work := w.modify i (fun d => { d with localRefused := true })

/-- A local open request in WORKING mode (R39). -/
def Work.localOpen (w : Work) (i : DoorIx) : Work :=
  let d := w.door i
  if d.state = .closed ∨ d.state = .stopped ∨ d.state = .warning ∨ d.state = .closing
      ∨ (d.state = .queued ∧ d.queuedDir = .close) then
    if d.inhibited then w.refuseLocal i else (w.cancel i).queue i .open .localCtl
  else w

/-- A release on a HOLD door in WORKING mode: its own local motion in the released direction is withdrawn (R41). -/
def Work.holdRelease (w : Work) (i : DoorIx) (l : Level) : Work :=
  let d := w.door i
  let mine : Bool :=
    match l with
    | .open => d.state = .opening || (d.state = .queued && d.queuedDir = .open)
    | .close => d.state = .closing || (d.state = .queued && d.queuedDir = .close)
    | .none => false
  if w.st.tables.doors[i].localMode = .hold ∧ d.origin = .localCtl ∧ mine = true then w.withdraw i else w

/-- A door becomes a passage (R43). -/
def Work.setPassage (w : Work) (i : DoorIx) : Work := w.modify i (fun d => { d with passage := true })

/-- A passage request in SEA mode (R43). -/
def Work.passageRequest (w : Work) (i : DoorIx) : Work :=
  let d := w.door i
  if d.state = .closed ∨ d.state = .stopped ∨ d.state = .warning ∨ d.state = .closing
      ∨ (d.state = .queued ∧ d.queuedDir = .close) then
    if d.inhibited then w.refuseLocal i else ((w.cancel i).setPassage i).queue i .open .localCtl
  else if d.state = .recloseWait then
    if d.inhibited then w.refuseLocal i
    else
      let w1 := (w.cancel i).rest i
      if (w1.door i).state = .opened then (w1.setPassage i).modify i (fun d => { d with origin := .localCtl })
      else if (w1.door i).state = .closed ∨ (w1.door i).state = .stopped then
        (w1.setPassage i).queue i .open .localCtl
      else w1
  else if d.state = .opened ∧ d.seaOpenHeld = false then
    if d.inhibited then w.refuseLocal i else (w.setPassage i).modify i (fun d => { d with origin := .localCtl })
  else w

/-- A release of OPEN in SEA mode: it ends an active passage with RECLOSE-WAIT, or CLOSED at the closed limit
(R44). -/
def Work.passageRelease (w : Work) (i : DoorIx) : Work :=
  if (w.door i).passage then
    let w1 := (w.cancel i).modify i (fun d => { d with passage := false })
    match w.st.doorLines[i].held with
    | some r => if r.closedAlone then w1.enterClosed i else w1.enterRecloseWait i
    | none => w1.enterRecloseWait i
  else w

/-- A release of a level, taken under the section mode in force (R38, R41, R44, R45). -/
def Work.localRelease (w : Work) (i : DoorIx) (l : Level) : Work :=
  if (w.door i).takesLocal then
    match w.st.mode, l with
    | .working, _ => w.holdRelease i l
    | .sea, .open => w.passageRelease i
    | .sea, .close => w
    | .sea, .none => w
  else w

/-- A press of a level, taken under the section mode in force (R38 to R40, R43, R45). -/
def Work.localPress (w : Work) (i : DoorIx) (l : Level) : Work :=
  if (w.door i).takesLocal then
    match w.st.mode, l with
    | .working, .open => w.localOpen i
    | .sea, .open => w.passageRequest i
    | _, .close => w.closeOrder i .localCtl false
    | _, .none => w
  else w

/-- The release and the press of a report, in this order, from the old and the new resolved level (R36). -/
def Work.localControls (w : Work) (i : DoorIx) (old new : Level) : Work :=
  if old = new then w
  else
    let w1 := if old = .none then w else w.localRelease i old
    if new = .none then w1 else w1.localPress i new

/-! ## A good report (R16 to R21) -/

/-- The change of the manual flag (R20, R21): set takes the door out of every motion; clear re-reads a resting
door's limits. -/
def Work.manualChange (w : Work) (i : DoorIx) (before : Bool) : Work :=
  let d := w.door i
  if d.manual = before ∨ d.state = .fault ∨ d.state = .unknown ∨ d.state = .absent then w
  else if d.manual then
    let w1 := ((w.cancel i).modify i (fun d => { d with passage := false })).rest i
    if (w1.door i).state = .closed then w1 else w1.settle i .notClosed
  else if d.state = .closed ∨ d.state = .opened ∨ d.state = .stopped then w.rest i
  else w

/-- The checks of R16 on a good report, in their order, after the manual flag and the side levels are stored. A check
that puts the door into FAULT ends the handling. -/
def Work.reportChecks (w : Work) (i : DoorIx) (r : DoorReport) (old : DoorRuntime) : Work :=
  let recovery : Bool := old.state = .unknown
  let w1 := if recovery then w.recover i else w
  if (w1.door i).state = .fault then w1
  else if r.conflicting then w1.enterFault i .limits
  else if r.unitFault ≠ .none then w1.enterFault i .unit
  else
    let w2 := w1.manualChange i old.manual
    if (w2.door i).state = .fault then w2
    else
      let w3 := w2.takeLimits i r
      if recovery then w3 else w3.localControls i (resolve old.sideA old.sideB) (resolve r.sideA r.sideB)

/-- A good report handed to a door machine (R16, R36): the manual flag and the side levels are stored at its arrival,
the checks follow, and the door is then due the sea reclose rule. An ABSENT door takes none (R2). -/
def Work.takeReport (w : Work) (i : DoorIx) (r : DoorReport) : Work :=
  let old := w.door i
  if old.state = .absent then w
  else
    let w1 := w.modify i (fun d => { d with manual := r.handPump, sideA := r.sideA, sideB := r.sideB })
    (w1.reportChecks i r old).dueReclose i

/-! ## Remote orders (R25 to R29, R50) -/

/-- The remote door actions (R205). -/
inductive DoorAction where
  | close | open | stop | ack
  deriving DecidableEq, Repr

/-- The door's own refusal of a remote order: the first condition of R25 that holds. -/
def DoorRuntime.refusal (d : DoorRuntime) (a : DoorAction) : Option OrderOutcome :=
  if d.state = .absent then some .noDoor
  else if d.manual = true ∧ a ≠ .ack then some .manual
  else if d.state = .fault ∧ (a = .close ∨ a = .open) then some .faulted
  else if d.state = .unknown ∧ a ≠ .ack then some .badState
  else none

/-- The sea-open held flag set by an OPEN answered DONE in SEA mode (R27, R32). -/
def Work.holdSeaOpen (w : Work) (i : DoorIx) : Work :=
  if w.st.mode = .sea then w.modify i (fun d => { d with seaOpenHeld := true }) else w

/-- A remote OPEN on a door without passage, by its state (R27). -/
def Work.openByState (w : Work) (i : DoorIx) : Work :=
  let d := w.door i
  match d.state with
  | .closed => w.queue i .open .remote
  | .stopped => w.queue i .open .remote
  | .warning => (w.cancel i).queue i .open .remote
  | .closing => (w.cancel i).queue i .open .remote
  | .queued => if d.queuedDir = .close then (w.cancel i).queue i .open .remote else w
  | .recloseWait =>
    let w1 := (w.cancel i).rest i
    if (w1.door i).state = .stopped then w1.queue i .open .remote else w1
  | .opened => w
  | .opening => w
  | .absent => w
  | .unknown => w
  | .fault => w

/-- A remote OPEN that passed R25 (R27). -/
def Work.openOrder (w : Work) (i : DoorIx) : Work × OrderOutcome :=
  if w.st.mode = .sea ∧ w.st.tables.doors[i].seaOpen = false then (w, .badMode)
  else if (w.door i).passage then (w, .done)
  else ((w.openByState i).holdSeaOpen i, .done)

/-- A remote STOP that passed R25 (R28). -/
def Work.stopOrder (w : Work) (i : DoorIx) : Work × OrderOutcome :=
  if w.st.mode = .sea then (w, .badMode) else (w.withdraw i, .done)

/-- Whether a FAULT door's fault still stands in its held report (R29). -/
def State.faultStands (s : State) (i : DoorIx) : Bool :=
  match s.doorLines[i].held with
  | none => false
  | some r =>
    match s.doors[i].faultCause with
    | .limits => r.conflicting
    | .unit => r.unitFault != .none
    | .closeOvertime => false
    | .openOvertime => false

/-- A remote ACK that passed R25 (R29). -/
def Work.ackOrder (w : Work) (i : DoorIx) : Work × OrderOutcome :=
  let clear : Work := w.modify i (fun d => { d with faultLatched := false, slow := false })
  if (w.door i).state = .fault then
    if w.st.faultStands i then (w, .faulted) else (clear.rest i, .done)
  else (clear, .done)

/-- A remote CLOSE, OPEN, STOP or ACK at a door machine (R25 to R29). -/
def Work.doorOrder (w : Work) (i : DoorIx) (a : DoorAction) : Work × OrderOutcome :=
  match (w.door i).refusal a with
  | some o => (w, o)
  | none =>
    match a with
    | .close => (w.closeOrder i .remote true, .done)
    | .open => w.openOrder i
    | .stop => w.stopOrder i
    | .ack => w.ackOrder i

/-- INHIBIT (`member`) or RELEASE of a door at the inhibit set (R50); a change recomputes the flags (R47). -/
def Work.inhibitOrder (w : Work) (i : DoorIx) (member : Bool) : Work × OrderOutcome :=
  if w.st.schemeFuse = false then (w, .badScheme)
  else if (w.door i).state = .absent then (w, .noDoor)
  else
    let set := if member then w.st.inhibitSet ||| doorBit i else w.st.inhibitSet &&& ~~~(doorBit i)
    if set = w.st.inhibitSet then (w, .done)
    else (Work.recomputeInhibit { w with st := { w.st with inhibitSet := set } }, .done)

end Sys2Proof.Machine
end

