-- ==== Sys2Proof/Machine/Admission.lean ====
section
/-! DEFINITION. Admission.lean: motion admission: capacity by supply and direction, the joining of raised claims, the
admission of a head claim with the start of travel timing, and a change of supply (R56 to R65, R70, R83). -/

-- One declaration is checked after another, so that no worker threads pile up on a large machine.
set_option Elab.async false

namespace Sys2Proof.Machine

open Sys2Proof

/-- The capacity of a group for a direction under a supply (R57). -/
def capacityOf (r : GroupRecord) (s : Supply) (dir : Dir) : Nat :=
  if r.present then
    match s, dir with
    | .main, _ => r.capMain
    | .emergency, _ => r.capEmergency
    | .accumulator, .close => r.capAccumulator
    | .accumulator, .open => 0
    | .failed, _ => 0
  else 0

/-- The capacity of a live group for a direction (R57). -/
def State.capacity (s : State) (g : GroupIx) (dir : Dir) : Nat :=
  capacityOf s.tables.groups[g] s.groups[g].supply dir

/-- Whether a claim fits its group: in-use plus the door's load does not exceed the capacity (R62). -/
def State.fits (s : State) (g : GroupIx) (c : Claim) : Bool :=
  s.groups[g].inUse + s.tables.doors[c.door].load ≤ s.capacity g c.dir

/-- The state a claim's direction admits its door to (R13). -/
def Dir.motion : Dir → DoorState
  | .close => .closing
  | .open => .opening

/-- One admission (R63): the claim leaves the queue, the load is added and recorded, the door starts to move, and
travel timing stores E, loads the deadline and starts the travel timer at 0 (R83, R84). -/
def Work.admitHead (w : Work) (g : GroupIx) (c : Claim) (rest : List Claim) : Work :=
  let load := w.st.tables.doors[c.door].load
  let e := w.st.admissionTime c.door g c.dir
  let w1 := w.setGroup g { w.st.groups[g] with queue := rest, inUse := w.st.groups[g].inUse + load }
  w1.modify c.door (fun d => { d with
    state := c.dir.motion
    heldLoad := some (g, load)
    expected := e
    deadline := { running := true, value := deadlineOf e w.st.tables.doors[c.door].margin }
    travel := { running := true, value := 0 } })

/-- The examination of a group's head claim: admitted when it fits, and the queue stays due; else the examination
ends (R62, R63). -/
def Work.examine (w : Work) (g : GroupIx) : Work :=
  match w.st.groups[g].queue with
  | [] => { w with dirty := w.dirty &&& ~~~(groupBit g) }
  | c :: rest =>
    if w.st.fits g c then w.admitHead g c rest else { w with dirty := w.dirty &&& ~~~(groupBit g) }

/-- The claims raised in the event join their queues in ascending door index (R59, R60). -/
def Work.joinAll (w : Work) : Work :=
  (members w.joins).foldl (fun w i => w.join i (w.groupOf i)) { w with joins := 0 }

/-- A group's supply set; when its capacity changes in either direction its queue is due its re-examination (R56,
R70). -/
def Work.setSupply (w : Work) (g : GroupIx) (s : Supply) : Work :=
  let w1 := w.setGroup g { w.st.groups[g] with supply := s }
  if w1.st.capacity g .close = w.st.capacity g .close ∧ w1.st.capacity g .open = w.st.capacity g .open then w1
  else w1.touch g

/-- The temperature of a good group report taken by travel timing (R76). -/
def Work.takeTemperature (w : Work) (g : GroupIx) (r : GroupReport) : Work :=
  if r.tempValid then
    w.setGroup g { w.st.groups[g] with heldTemp := some (clampTemp r.temperature), heldFlag := false }
  else w.setGroup g { w.st.groups[g] with heldFlag := true }

/-- A group's held flag set (R77). -/
def Work.setHeldFlag (w : Work) (g : GroupIx) : Work := w.setGroup g { w.st.groups[g] with heldFlag := true }

/-- A good group report handed on: its supply to motion admission, its temperature to travel timing (R144). -/
def Work.takeGroupReport (w : Work) (g : GroupIx) (r : GroupReport) : Work :=
  (w.setSupply g r.supply).takeTemperature g r

end Sys2Proof.Machine
end

