-- ==== Sys2Proof/Machine/Lines.lean ====
section
/-! DEFINITION. Lines.lean: the line controllers: polling, the reply wait, and the line state's moves (R138 to R150). -/

-- One declaration is checked after another, so that no worker threads pile up on a large machine.
set_option Elab.async false

namespace Sys2Proof.Machine

open Sys2Proof

/-- A POLL sent: the reply wait starts and the poll timer restarts from the full period (R139). -/
def LineControl.poll (c : LineControl) (period : Nat) (byte : Byte) : LineControl :=
  { c with pollTimer := some period, replyWait := some byte }

/-- Polling becomes active: the first POLL is sent at once (R139, R150). -/
def LineControl.start (c : LineControl) (period : Nat) (byte : Byte) : LineControl :=
  LineControl.poll { c with polling := true, settled := false } period byte

/-- The line of an absent unit: polling stopped, any reply wait ended, LOST (R148, R149). -/
def LineControl.stop : LineControl := LineControl.reset

/-- The reply wait ends; the first POLL is thereby settled (R141, R142, R150). -/
def LineControl.endWait (c : LineControl) : LineControl := { c with replyWait := none, settled := true }

/-- The line state after a miss (R142). -/
def LineState.afterMiss : LineState → LineState
  | .good => .missed1
  | .missed1 => .missed2
  | .missed2 => .lost
  | .lost => .lost

/-- Whether a line's poll timer has expired while polling is active (R139). -/
def LineControl.pollDue (c : LineControl) : Bool := c.polling && c.pollTimer = some 0

/-- A door line after a good reply (R142, R143). -/
def DoorLine.good (l : DoorLine) (r : DoorReport) : DoorLine :=
  { ctl := { l.ctl.endWait with line := .good }, held := some r }

/-- A door line after a miss; the held report goes with the line (R142, R146). -/
def DoorLine.miss (l : DoorLine) : DoorLine :=
  { ctl := { l.ctl.endWait with line := l.ctl.line.afterMiss }
    held := if l.ctl.line.afterMiss = .lost then none else l.held }

/-- A group line after a good reply (R142, R144). -/
def GroupLine.good (l : GroupLine) (r : GroupReport) : GroupLine :=
  { ctl := { l.ctl.endWait with line := .good }, held := some r }

/-- A group line after a miss (R142, R146). -/
def GroupLine.miss (l : GroupLine) : GroupLine :=
  { ctl := { l.ctl.endWait with line := l.ctl.line.afterMiss }
    held := if l.ctl.line.afterMiss = .lost then none else l.held }

/-- A door line controller replaced. -/
def State.setDoorLine (s : State) (i : DoorIx) (l : DoorLine) : State :=
  { s with doorLines := upd s.doorLines i l }

/-- A group line controller replaced. -/
def State.setGroupLine (s : State) (g : GroupIx) (l : GroupLine) : State :=
  { s with groupLines := upd s.groupLines g l }

/-- Polling becomes active on a door line, with its first POLL (R139). -/
def State.startDoorLine (s : State) (i : DoorIx) : State :=
  s.setDoorLine i { s.doorLines[i] with ctl := s.doorLines[i].ctl.start Config.doorPollPeriod (s.doorPoll i) }

/-- Polling becomes active on a group line, with its first POLL (R139). -/
def State.startGroupLine (s : State) (g : GroupIx) : State :=
  s.setGroupLine g { s.groupLines[g] with ctl := s.groupLines[g].ctl.start Config.groupPollPeriod groupPoll }

/-- The door line of an absent door (R148). -/
def State.stopDoorLine (s : State) (i : DoorIx) : State := s.setDoorLine i { ctl := LineControl.stop, held := none }

/-- The group line of an absent group (R149). -/
def State.stopGroupLine (s : State) (g : GroupIx) : State := s.setGroupLine g { ctl := LineControl.stop, held := none }

end Sys2Proof.Machine
end

