-- ==== Sys2Proof/Machine/Plan.lean ====
section
/-! DEFINITION. Plan.lean: the plan engine: a run's start and end, step entry, links, the step's doors, suspension,
resumption and abort (R93 to R113). -/

-- One declaration is checked after another, so that no worker threads pile up on a large machine.
set_option Elab.async false

namespace Sys2Proof.Machine

open Sys2Proof

/-- The plan engine's record replaced. -/
def Work.setPlan (w : Work) (p : PlanEngine) : Work := { w with st := { w.st with plan := p } }

/-- No door marked. -/
def noMarks : Vector (Option Mark) 24 := Vector.replicate 24 none

/-- Every door of a set marked unsettled (R100). -/
def marksOf (set : DoorSet) : Vector (Option Mark) 24 :=
  (members set).foldl (fun v i => upd v i (some .unsettled)) noMarks

/-- A run ends DONE: the timer stops, the marks are discarded, LINK-FAULT is set when the end is a link fault (R105,
R111). -/
def Work.endRun (w : Work) (linkFault : Bool) : Work :=
  let p := w.st.plan
  { w.setPlan { p with
      engine := .done, stepTimer := .stopped, marks := noMarks
      result := { p.result with linkFault := p.result.linkFault || linkFault } } with ended := true }

/-- A door of the step handled at an entry: the first row of R101 that holds. -/
def Work.handleDoor (w : Work) (wait : WaitKind) (i : DoorIx) : Work :=
  let d := w.door i
  if d.state = .absent then w.settle i .notClosed
  else if d.state = .closed then w.settle i .closed
  else if d.state = .fault ∨ d.state = .unknown then w.settle i .notClosed
  else if d.manual then w.settle i .notClosed
  else if d.passage then w
  else if d.state = .closing ∧ wait = .admitted then w.settle i .closed
  else if d.alreadyClosing then w
  else w.closeOrder i .plan true

/-- The step timer loaded from a step's timeout; none runs at 0 (R100). -/
def loadStepTimer (timeout : Nat) : StepTimer := if timeout = 0 then .stopped else .running timeout

/-- Entry of a valid step of the running bank (R100); at the visit limit the run ends with LINK-FAULT instead
(R106). -/
def Work.enterStep (w : Work) (k : StepIx) (r : PlanStep) : Work :=
  let p := w.st.plan
  if Config.maxVisits ≤ p.visits then w.endRun true
  else
    let w1 := w.setPlan { p with
      engine := .running k, currentStep := some k, stepTimer := .stopped, visits := p.visits + 1
      marks := marksOf r.doors, result := { p.result with stepsVisited := p.result.stepsVisited + 1 } }
    let w2 := (members r.doors).foldl (fun w i => w.handleDoor r.wait i) w1
    { w2.setPlan { w2.st.plan with stepTimer := loadStepTimer r.timeout } with check := true }

/-- A link to a step of a bank: a valid step is entered; an invalid one ends the run, with LINK-FAULT when the header
is strict (R99, R105). -/
def Work.linkTo (w : Work) (bank : PlanBank) (k : StepIx) : Work :=
  if bank.steps[k].valid then w.enterStep k bank.steps[k] else w.endRun bank.header.strict

/-- The next link of the running step followed (R105). -/
def Work.followLink (w : Work) : Work :=
  match w.st.plan.engine, w.st.plan.runningBank with
  | .running k, some b =>
    match w.st.tables.banks[b].steps[k].next with
    | none => w.endRun false
    | some j => w.linkTo w.st.tables.banks[b] j
  | _, _ => w

/-- Whether the engine is RUNNING with no door of its step unsettled (R103). -/
def State.stepComplete (s : State) : Bool :=
  match s.plan.engine with
  | .running _ => s.plan.marks.toList.all (fun m => m ≠ some .unsettled)
  | .idle => false
  | .suspended _ => false
  | .done => false

/-- Completed steps followed up: the link of a complete step is followed, as long as the step entered completes at its
entry (R103, R105). The visit limit ends this within 17 rounds (R106). -/
def Work.followUp : Nat → Work → Work
  | 0, w => w
  | n + 1, w =>
    if w.check then
      let w1 := { w with check := false }
      if w1.st.stepComplete then followUp n w1.followLink else w1
    else w

/-- A run start (R99): the result clears, the active bank becomes the running bank, and its first step is linked to; an
invalid header ends the run with LINK-FAULT. -/
def Work.runStart (w : Work) : Work :=
  let b := w.st.tables.settings.activeBank
  let bank := w.st.tables.banks[b]
  let w1 := w.setPlan { w.st.plan with
    runningBank := some b, currentStep := none, stepTimer := .stopped, visits := 0, marks := noMarks
    result := PlanResult.clear }
  if bank.header.valid then
    if h : bank.header.firstStep < 16 then w1.linkTo bank ⟨bank.header.firstStep, h⟩
    else w1.endRun bank.header.strict
  else w1.endRun true

/-- The step timer's expiry: OVERRUN, the marks discarded, and the link followed (R104). -/
def Work.overrun (w : Work) : Work :=
  let p := w.st.plan
  Work.followLink (w.setPlan { p with
    stepTimer := .stopped, marks := noMarks, result := { p.result with overrun := true } })

/-- The step timer frozen at the time it has left; that time is at least 1, because reaching 0 is the overrun itself
(R107, log entry 12). -/
def StepTimer.freeze : StepTimer → StepTimer
  | .running n => .frozen (max 1 n)
  | .frozen n => .frozen n
  | .stopped => .stopped

/-- The step timer resumed from its frozen time (R109). -/
def StepTimer.thaw : StepTimer → StepTimer
  | .frozen n => .running n
  | .running n => .running n
  | .stopped => .stopped

/-- Whether a door waits or warns under a close order of the plan: origin PLAN in WARNING or QUEUED(close) (R107). -/
def DoorRuntime.planWaiting (d : DoorRuntime) : Bool :=
  d.origin = .plan && (d.state = .warning || (d.state = .queued && d.queuedDir = .close))

/-- Every door of the section for which `p` holds withdrawn, in ascending index (R10). -/
def Work.withdrawWhere (w : Work) (p : DoorRuntime → Bool) : Work :=
  allDoors.foldl (fun w i => if p (w.door i) then w.withdraw i else w) w

/-- SUSPEND taken on RUNNING(step): the timer freezes and the plan's waiting doors are withdrawn (R107). -/
def Work.suspendRun (w : Work) (k : StepIx) : Work :=
  let p := w.st.plan
  (w.setPlan { p with engine := .suspended k, stepTimer := p.stepTimer.freeze }).withdrawWhere
    DoorRuntime.planWaiting

/-- RESUME taken on SUSPENDED(step): the unsettled doors of the step are handled as at an entry (R109). -/
def Work.resumeRun (w : Work) (k : StepIx) : Work :=
  let p := w.st.plan
  let w1 := w.setPlan { p with engine := .running k, stepTimer := p.stepTimer.thaw }
  let open_ := allDoors.filter (fun i => p.marks[i] = some .unsettled)
  { open_.foldl (fun w i => w.handleDoor w1.st.currentWait i) w1 with check := true }

/-- An abort: ABORTED, IDLE, the marks discarded, the plan's waiting doors withdrawn (R110). -/
def Work.abortRun (w : Work) : Work :=
  let p := w.st.plan
  { (w.setPlan { p with
      engine := .idle, stepTimer := .stopped, marks := noMarks
      result := { p.result with aborted := true } }).withdrawWhere DoorRuntime.planWaiting with ended := true }

/-- Whether the engine is RUNNING or SUSPENDED. -/
def EngineState.inRun : EngineState → Bool
  | .running _ => true
  | .suspended _ => true
  | .idle => false
  | .done => false

/-- Whether a run holds plan bank `b`: the engine is RUNNING or SUSPENDED on it (R94). -/
def State.runHolds (s : State) (b : BankIx) : Bool := s.plan.engine.inRun && s.plan.runningBank = some b

end Sys2Proof.Machine
end

