-- ==== Sys2Proof/Machine/Launch.lean ====
section
/-! DEFINITION. Launch.lean: the application of the staging area's records to the live tables, with each owner's taking
of a changed record (R33, R71, R72, R77, R134, R148, R149, R195, R196), and staging (R188 to R190). -/

-- One declaration is checked after another, so that no worker threads pile up on a large machine.
set_option Elab.async false

namespace Sys2Proof.Machine

open Sys2Proof

/-! ## Each owner's taking of a changed record -/

/-- A record written into the live tables. -/
def Work.write (w : Work) (e : Entry) : Work := { w with st := { w.st with tables := writeEntry w.st.tables e } }

/-- A door removed by a launch: its activity cancelled and any held load released, the runtime record reset, ABSENT,
its line no longer polled (R33, R148, R179). -/
def Work.removeDoor (w : Work) (i : DoorIx) (r : DoorRecord) : Work :=
  let w1 := ((w.cancel i).release i).write (.door i r)
  let w2 := w1.put i (DoorRuntime.reset .absent (w1.st.inhibitedNow i))
  { w2 with st := w2.st.stopDoorLine i }

/-- A door made present by a launch: the runtime record reset, UNKNOWN, its line polled at once (R33, R148, R179). -/
def Work.addDoor (w : Work) (i : DoorIx) (r : DoorRecord) : Work :=
  let w1 := w.write (.door i r)
  let w2 := w1.put i (DoorRuntime.reset .unknown (w1.st.inhibitedNow i))
  { w2 with st := w2.st.startDoorLine i }

/-- A present door's record rewritten: a QUEUED door whose group or load changes has its claim removed and rejoined at
the tail of its class in the queue of its new group; every other value is kept for later use (R33, R72). -/
def Work.rewriteDoor (w : Work) (i : DoorIx) (r : DoorRecord) : Work :=
  let old := w.st.tables.doors[i]
  if (w.door i).state = .queued ∧ (old.group ≠ r.group ∨ old.load ≠ r.load) then
    ((w.unclaim i).write (.door i r)).join i r.group
  else w.write (.door i r)

/-- A staged door record applied (R33); a record with the same contents causes no change. -/
def Work.applyDoor (w : Work) (i : DoorIx) (r : DoorRecord) : Work :=
  let old := w.st.tables.doors[i]
  if old = r then w
  else
    Work.dueReclose
      (match old.present, r.present with
      | true, false => w.removeDoor i r
      | false, true => w.addDoor i r
      | true, true => w.rewriteDoor i r
      | false, false => w.write (.door i r)) i

/-- A staged group record applied: the queue is due its re-examination, and the line stops or starts with the record's
presence; a group made absent has its held flag set (R71, R77, R149). -/
def Work.applyGroup (w : Work) (g : GroupIx) (r : GroupRecord) : Work :=
  let old := w.st.tables.groups[g]
  if old = r then w
  else
    let w1 := (w.write (.group g r)).touch g
    match old.present, r.present with
    | true, false =>
      let w2 := w1.setHeldFlag g
      { w2 with st := w2.st.stopGroupLine g }
    | false, true => { w1 with st := w1.st.startGroupLine g }
    | true, true => w1
    | false, false => w1

/-- Whether two settings records have different inhibit range fields (R196). -/
def Settings.rangeDiffers (a b : Settings) : Bool :=
  a.inhibitFirst ≠ b.inhibitFirst || a.inhibitCount ≠ b.inhibitCount || a.inhibitComplement ≠ b.inhibitComplement

/-- A staged settings record applied: in the RANGE scheme a change of the range recomputes the inhibited flags; every
other field is read by its owner when next needed (R47, R196). -/
def Work.applySettings (w : Work) (r : Settings) : Work :=
  let w1 := w.write (.settings r)
  if !w.st.schemeFuse && w.st.tables.settings.rangeDiffers r then w1.recomputeInhibit else w1

/-- One staged entry applied (R195). -/
def Work.applyEntry (w : Work) : Entry → Work
  | .door i r => w.applyDoor i r
  | .group g r => w.applyGroup g r
  | .header b r => w.write (.header b r)
  | .step b k r => w.write (.step b k r)
  | .station n r => w.write (.station n r)
  | .settings r => w.applySettings r

/-! ## The authority check after a launch (R134) -/

/-- R134, step 1: a pending requester without standing or command right is removed. -/
def State.checkRequester (s : State) : State :=
  match s.transfer with
  | some t =>
    if hasCommand s.tables t.requester then s
    else State.answer { s with transfer := none } t.requester (OrderTag.authRequest false) .removed
  | none => s

/-- R134, step 2: a holder without standing or command right becomes NONE, and a transfer still pending completes. -/
def State.checkHolder (s : State) : State :=
  match s.holder with
  | some h =>
    if hasCommand s.tables h then s
    else
      match s.transfer with
      | some t =>
        State.answer { s with holder := some t.requester, transfer := none } t.requester
          (OrderTag.authRequest false) .granted
      | none => { s with holder := none }
  | none => s

/-! ## The application (R195) -/

/-- The staging area emptied, its owner and pending launch cleared, the cursors at 0 (R190, R195, R197). -/
def State.clearStaging (s : State) : State :=
  { s with staging := [], stagingOwner := none, cursors := Cursors.zero, pendingLaunch := none }

/-- The staging area applied in one event: every entry in order, then the area empties, the launch's result is placed
when it has one, and the authority logic checks a changed station table (R195). DESIGN CHOICE, log entry 24: a step whose
last door the walk settles is followed after all of this, not at that record. -/
def Work.applyLaunch (w : Work) (result : Option (Slot × LaunchMode)) : Work :=
  let before := w.st.tables.stations
  let w1 := w.st.staging.foldl Work.applyEntry w
  let s2 := w1.st.clearStaging
  let s3 :=
    match result with
    | some (n, m) => s2.answer n (OrderTag.launch m) .done
    | none => s2
  { w1 with st := if s3.tables.stations = before then s3 else s3.checkRequester.checkHolder }

/-- Whether the staging area holds a record of the running bank while the engine is RUNNING or SUSPENDED (R192). -/
def State.stagingHeld (s : State) : Bool :=
  match s.plan.runningBank with
  | some b => s.plan.engine.inRun && s.staging.any (Entry.inBank b)
  | none => false

/-- The end of a run handed to the table manager: a pending NOW launch is applied without a second check (R111,
R193). -/
def Work.applyHeld (w : Work) : Work :=
  match w.st.pendingLaunch with
  | some p =>
    match p.mode with
    | .now => w.applyLaunch (if p.silent then none else some (p.sender, .now))
    | .atCycle => w
  | none => w

/-! ## Staging (R188 to R190) -/

/-- A table's write cursor (R190). -/
def Cursors.get (c : Cursors) : TableId → Nat
  | .door => c.door
  | .group => c.group
  | .plan0 => c.plan0
  | .plan1 => c.plan1
  | .station => c.station
  | .settings => c.settings

/-- A table's write cursor moved (R190). -/
def Cursors.put (c : Cursors) (t : TableId) (n : Nat) : Cursors :=
  match t with
  | .door => { c with door := n }
  | .group => { c with group := n }
  | .plan0 => { c with plan0 := n }
  | .plan1 => { c with plan1 := n }
  | .station => { c with station := n }
  | .settings => { c with settings := n }

/-- The index a TABLE-WRITE starts at: FF reads the table's write cursor (R190, R205). -/
def State.writeStart (s : State) (t : TableId) (start : Byte) : Nat :=
  if start = 0xFF#8 then s.cursors.get t else start.toNat

/-- The form of a TABLE-WRITE's records: as many bytes as its start index and count name (R117, R205). -/
def State.writeFormOk (s : State) (t : TableId) (start count : Byte) (records : List Byte) : Bool :=
  records.length = recordsSize t (s.writeStart t start) count.toNat

/-- A TABLE-WRITE at the table manager: the first check of R189 that fails refuses it; else its records are appended,
the sender owns an area that was empty, and the cursor moves (R188 to R190). -/
def State.stageWrite (s : State) (n : Slot) (t : TableId) (start count : Byte) (records : List Byte) :
    State × OrderOutcome :=
  let first := s.writeStart t start
  let k := count.toNat
  if s.staging ≠ [] ∧ s.stagingOwner ≠ some n then (s, .stagingOwned)
  else if s.pendingLaunch.isSome ∨ s.storeEngine = .loading then (s, .stagingBusy)
  else if k < 1 ∨ Config.maxRecords < k ∨ tableRecords t < first + k then (s, .range)
  else
    match entriesOfBytes t first k records with
    | none => (s, .range)
    | some es =>
      if Config.stagingDepth < s.staging.length + k then (s, .stagingFull)
      else
        ({ s with staging := s.staging ++ es, stagingOwner := some n
                  cursors := s.cursors.put t (first + k) }, .done)

end Sys2Proof.Machine
end

