-- ==== Sys2Proof/Machine/Event.lean ====
section
/-! DEFINITION. Event.lean: what an event owes is paid here: completed steps are followed up, an ended run is handed to
the table manager and the door machines, the sea reclose rule is applied, raised claims join, and the queues that
changed are re-examined, each admission again followed up, until nothing is owed (R30, R59, R64, R103, R111). -/

-- One declaration is checked after another, so that no worker threads pile up on a large machine.
set_option Elab.async false

namespace Sys2Proof.Machine

open Sys2Proof

/-- An ended run handed on: a held launch is applied, and every door is due the sea reclose rule (R111). -/
def Work.handEnd (w : Work) : Work :=
  if w.ended then
    let w1 := Work.applyHeld { w with ended := false }
    { w1 with due := BitVec.allOnes 24 }
  else w

/-- The sea reclose rule applied to the doors due it, in ascending index (R30). -/
def Work.recloseDue (w : Work) : Work := (members w.due).foldl Work.recloseRule { w with due := 0 }

/-- The lowest group whose queue is due its re-examination. -/
def Work.dirtyGroup (w : Work) : Option GroupIx := allGroups.find? (inGroups w.dirty)

/-- One examination of the lowest group due (R62 to R64). -/
def Work.examineNext (w : Work) : Work :=
  match w.dirtyGroup with
  | some g => w.examine g
  | none => w

/-- The debts that come before the queues: settled steps, an ended run, reclosing, and the joining of claims. -/
def Work.prepare (w : Work) : Work := ((w.followUp 17).handEnd.recloseDue).joinAll

/-- Rounds of preparing and examining until the event owes nothing. Claims raised in a last round still join. -/
def Work.drain : Nat → Work → Work
  | 0, w => w.joinAll
  | n + 1, w => if w.quiet then w else Work.drain n w.prepare.examineNext

/-- Rounds an event can need at most: an admission or the end of an examination each takes one (log entry 9). -/
def drainRounds : Nat := 512

/-- The state an event leaves once nothing is owed. DESIGN CHOICE, log entry 24: the link of a step whose last door the event
settled is followed here, after the rest of the event's own parts. -/
def Work.finish (w : Work) : State := (w.drain drainRounds).st

/-! ## Run starts (R96, R97, R102) -/

/-- Whether a further step entry may come of the queues: the engine is RUNNING and a claim is to join or a queue is due its
re-examination. -/
def Work.entering (w : Work) : Bool :=
  match w.st.plan.engine with
  | .running _ => !(w.joins == 0 && w.dirty == 0)
  | .idle => false
  | .suspended _ => false
  | .done => false

/-- The step entries of one event made: each entry's claims join and the queues are re-examined, and a step that completes is
followed up, until no further entry can come of it or the run has ended (R102, R103, R105). -/
def Work.makeEntries : Nat → Work → Work
  | 0, w => w
  | n + 1, w =>
    let w1 := w.followUp 17
    if w1.entering then Work.makeEntries n w1.joinAll.examineNext else w1

/-- Every door for the sea reclose rule (R96, R124). -/
def Work.dueAll (w : Work) : Work := { w with due := BitVec.allOnes 24 }

/-- A run start in SEA mode, its step entries, and the sea reclose rule after them (R96, R97, R124, steps 4 and 5). -/
def Work.rerun (w : Work) : Work := (w.runStart.makeEntries drainRounds).dueAll

/-! ## Section mode (R124 to R126) -/

/-- The passage and sea-open held flags of every door cleared (R124, R126). -/
def Work.clearHeldOpen (w : Work) : Work :=
  allDoors.foldl (fun w i => w.modify i (fun d => { d with passage := false, seaOpenHeld := false })) w

/-- Whether a door opens or waits to open (R124). -/
def DoorRuntime.isOpening (d : DoorRuntime) : Bool := d.state = .opening || (d.state = .queued && d.queuedDir = .open)

/-- Whether a mode change to WORKING withdraws a door: RECLOSE-WAIT, or WARNING or QUEUED(close) with origin PLAN or
RECLOSE (R126). -/
def DoorRuntime.isReclosing (d : DoorRuntime) : Bool :=
  d.state = .recloseWait
    || ((d.origin = .plan || d.origin = .reclose)
      && (d.state = .warning || (d.state = .queued && d.queuedDir = .close)))

/-- The section mode set (R123). -/
def Work.setMode (w : Work) (m : Mode) : Work := { w with st := { w.st with mode := m } }

/-- A mode change to SEA from WORKING, steps 1 to 5 of R124. -/
def Work.enterSea (w : Work) : Work :=
  ((w.withdrawWhere DoorRuntime.isOpening).clearHeldOpen.setMode .sea).rerun

/-- A mode change to WORKING from SEA, steps 1 to 4 of R126. -/
def Work.enterWorking (w : Work) : Work :=
  let w1 := if w.st.plan.engine.inRun then w.abortRun else w
  ((w1.withdrawWhere DoorRuntime.isReclosing).clearHeldOpen).setMode .working

/-- The isolation action CLOSE at the mode logic (R125). -/
def Work.isolationClose (w : Work) : Work :=
  match w.st.mode with
  | .working => w.enterSea
  | .sea => if w.st.plan.engine.inRun then w else w.rerun

end Sys2Proof.Machine
end

