-- ==== Sys2Proof/Machine/Reports.lean ====
section
/-! DEFINITION. Reports.lean: the report builder: the snapshot, its clearing, the SECTION-REPORT and TABLE-DATA (R172 to
R183). -/

-- One declaration is checked after another, so that no worker threads pile up on a large machine.
set_option Elab.async false

namespace Sys2Proof.Machine

open Sys2Proof

/-- What the snapshot copies for a door (R174). -/
def State.snapDoor (s : State) (i : DoorIx) : SnapDoor :=
  let d := s.doors[i]
  { state := d.state, queuedDir := d.queuedDir, origin := d.origin, faultCause := d.faultCause,
    faultLatched := d.faultLatched, slow := d.slow, manual := d.manual, passage := d.passage,
    seaOpenHeld := d.seaOpenHeld, inhibited := d.inhibited, localRefused := d.localRefused,
    line := s.doorLines[i].ctl.line, changed := d.changed, lastClose := d.lastClose, lastOpen := d.lastOpen }

/-- What the snapshot copies for a group (R175). -/
def State.snapGroup (s : State) (g : GroupIx) : SnapGroup :=
  let r := s.groups[g]
  { present := s.tables.groups[g].present, supply := r.supply, capClose := s.capacity g .close,
    capOpen := s.capacity g .open, inUse := r.inUse, queueLength := r.queue.length, heldTemp := r.heldTemp,
    heldFlag := r.heldFlag, tf := r.tf, line := s.groupLines[g].ctl.line
    pump := match s.groupLines[g].held with
      | some h => h.pump
      | none => false }

/-- The section state as the snapshot copies it (R174 to R177). -/
def State.snapshotNow (s : State) : Snapshot :=
  { doors := allDoors.map s.snapDoor
    groups := allGroups.map s.snapGroup
    sectionNumber := s.tables.settings.sectionNumber
    mode := s.mode
    contact := s.contact
    activeLoop := s.activeLoop
    loopA := s.ports.a.sup.loop
    loopB := s.ports.b.sup.loop
    heldHeel := s.heldHeel
    engine := s.plan.engine
    activeBank := s.tables.settings.activeBank
    currentStep := s.plan.currentStep
    result := s.plan.result
    holder := s.holder
    pendingRequester := s.transfer.map Transfer.requester
    stagingCount := s.staging.length
    stagingOwner := s.stagingOwner
    launchPending := s.pendingLaunch.map PendingLaunch.mode
    storeEngine := s.storeEngine
    lastSave := s.lastSave
    tablesFromStore := s.tablesFromStore
    resetCause := s.resetCause
    individual := s.schemeFuse
    badFramesA := s.ports.a.badFrames
    badFramesB := s.ports.b.badFrames
    overflowA := s.ports.a.overflow
    overflowB := s.ports.b.overflow
    responseLost := s.responseLost }

/-- A door's report flags cleared; this sets no changed flag (R53, R178). -/
def DoorRuntime.clearReportFlags (d : DoorRuntime) : DoorRuntime := { d with changed := false, localRefused := false }

/-- A port's loss indications cleared (R178). -/
def Port.clearLosses (p : Port) : Port := { p with badFrames := 0, overflow := false }

/-- The clearing at the snapshot (R178). -/
def State.clearReported (s : State) : State :=
  { s with
    doors := s.doors.map DoorRuntime.clearReportFlags
    ports := { a := s.ports.a.clearLosses, b := s.ports.b.clearLosses }
    responseLost := false }

/-- The SECTION-REPORT placed in both insertion queues. `before` holds the ports as they stood at the event's start: a
queue that has grown since holds another frame of the same event (R161, R181). -/
def State.placeReport (s : State) (f : NodeFrame) (before : Ports) : State :=
  { s with ports :=
      { a := s.ports.a.placeReport f (decide (before.a.insertion.length < s.ports.a.insertion.length))
        b := s.ports.b.placeReport f (decide (before.b.insertion.length < s.ports.b.insertion.length)) } }

/-- The snapshot of an accepted cycle start taken, its flags cleared and its report placed (R173, R178, R181). -/
def State.report (s : State) (cycle : Byte) (before : Ports) : State :=
  let snap := s.snapshotNow
  { (s.clearReported.placeReport (.sectionReport cycle.toNat snap) before) with
    snapshot := some snap, lastCycle := cycle.toNat }

/-- Whether the report builder takes a TABLE-READ's range (R182). -/
def readRangeOk (t : TableId) (start count : Byte) : Bool :=
  1 ≤ count.toNat && count.toNat ≤ Config.maxRecords && start.toNat + count.toNat ≤ tableRecords t

/-- The TABLE-DATA that answers a TABLE-READ (R183). -/
def State.tableDataFrame (s : State) (n : Slot) (t : TableId) (start count : Byte) : NodeFrame :=
  .tableData { dest := n, cycle := s.lastCycle, table := t, start := start.toNat, count := count.toNat
               records := recordsBytes s.tables t start.toNat count.toNat }

/-- A TABLE-READ at the report builder (R182, R183). -/
def State.readTable (s : State) (n : Slot) (tag : OrderTag) (t : TableId) (start count : Byte) : State :=
  if readRangeOk t start count then s.placeResult (s.tableDataFrame n t start count)
  else s.answer n tag .range

end Sys2Proof.Machine
end

