-- ==== Sys2Proof/Machine/Contact.lean ====
section
/-! DEFINITION. Contact.lean: the loop supervisors, the contact monitor with its isolation action, and the accepted cycle
start (R163 to R170, R193). -/

-- One declaration is checked after another, so that no worker threads pile up on a large machine.
set_option Elab.async false

namespace Sys2Proof.Machine

open Sys2Proof

/-! ## One supervisor (R164, R165) -/

/-- A window started: the timer at 0, the limits read from the live settings (R164, R165, R167). -/
def Supervisor.restart (p : Supervisor) (st : Settings) : Supervisor :=
  { p with window := some 0, windowMin := st.windowMin, windowMax := st.windowMax }

/-- A supervisor after one window fault under a loss limit (R165). -/
def Supervisor.fault (p : Supervisor) (limit : Nat) : Supervisor :=
  match p.loop with
  | .lost => { p with recovery := 0, faults := if p.faults < limit then p.faults + 1 else limit }
  | .silent => { p with faults := p.faults + 1, loop := if limit ≤ p.faults + 1 then .lost else .silent }
  | .good => { p with faults := p.faults + 1, loop := if limit ≤ p.faults + 1 then .lost else .good }

/-- A supervisor's loop state and recovery count after a timely cycle start (R164). -/
def Supervisor.move (p : Supervisor) : Supervisor :=
  match p.loop with
  | .silent => { p with loop := .good, recovery := 0 }
  | .good => p
  | .lost => if p.recovery = 0 then { p with recovery := 1 } else { p with loop := .good, recovery := 0 }

/-- A supervisor after a timely cycle start (R164). -/
def Supervisor.timely (p : Supervisor) (st : Settings) : Supervisor :=
  Supervisor.move (Supervisor.restart { p with faults := 0 } st)

/-- Whether a supervisor's window timer stands at its maximum (R165). -/
def Supervisor.expired (p : Supervisor) : Bool :=
  match p.window with
  | some t => decide (p.windowMax ≤ t)
  | none => false

/-! ## The contact monitor (R168 to R170) -/

/-- A loop's supervisor. -/
def State.supervisor (s : State) (l : LoopId) : Supervisor := (s.ports.port l).sup

/-- The port of a loop rewritten. -/
def State.setPort (s : State) (l : LoopId) (p : Port) : State := { s with ports := s.ports.set l p }

/-- A loop's supervisor replaced. -/
def State.setSupervisor (s : State) (l : LoopId) (p : Supervisor) : State :=
  s.setPort l { s.ports.port l with sup := p }

/-- The active loop after loop `l` went from one state to another while the other loop stood at `other` (R168). -/
def activeAfter (active l : LoopId) (old new other : LoopState) : LoopId :=
  if l = active ∧ new = .lost ∧ other = .good then otherLoop l
  else if new = .good ∧ old ≠ .good ∧ other ≠ .good then l
  else active

/-- The contact state from the active loop's state and both loop states (R169). -/
def contactOf (active a b : LoopState) : Contact :=
  if active = .good then .connected else if a = .lost ∧ b = .lost then .isolated else .waiting

/-- The contact monitor's taking of a change of loop `l` from state `old`: the active loop, then the contact state
(R168, R169). -/
def State.monitor (s : State) (l : LoopId) (old : LoopState) : State :=
  let active := activeAfter s.activeLoop l old (s.supervisor l).loop (s.supervisor (otherLoop l)).loop
  { s with activeLoop := active
           contact := contactOf (s.supervisor active).loop (s.supervisor .a).loop (s.supervisor .b).loop }

/-- A supervisor's new values taken: a change of loop state is handed to the contact monitor, and an entry to ISOLATED
applies the isolation action (R165, R168 to R170). -/
def Work.takeSupervisor (w : Work) (l : LoopId) (p : Supervisor) : Work :=
  let old := (w.st.supervisor l).loop
  let s1 := w.st.setSupervisor l p
  if p.loop = old then { w with st := s1 }
  else
    let s2 := s1.monitor l old
    let w2 : Work := { w with st := s2 }
    if s2.contact = .isolated ∧ w.st.contact ≠ .isolated ∧ s2.tables.settings.isolation = .close then
      w2.isolationClose
    else w2

/-- A window fault at loop `l`, its supervisor's window already restarted or left (R165). -/
def Work.windowFault (w : Work) (l : LoopId) (p : Supervisor) : Work :=
  w.takeSupervisor l (p.fault w.st.tables.settings.lossLimit)

/-! ## The accepted cycle start (R166, R193) -/

/-- The heel field taken as the held heel, clamped (R74). -/
def State.takeHeel (s : State) (heel : Word16) : State := { s with heldHeel := clampHeel heel.toInt }

/-- The lamp beat realigned: the phase ON and the half-period timer restarted (R7). -/
def State.realignBeat (s : State) : State :=
  { s with beatOn := true, beatTimer := some s.tables.settings.beatHalf }

/-- The cross-check of the staging area over the live tables (R191). -/
def State.checkStaging (s : State) : Option (CheckReason × Option Nat) :=
  crossCheck (writeEntries s.tables s.staging) s.staging

/-- A pending AT-CYCLE launch at an accepted cycle start: kept while a running bank holds it, refused by the cross-check,
or applied (R193). -/
def Work.takeCycleLaunch (w : Work) : Work :=
  match w.st.pendingLaunch with
  | some p =>
    match p.mode with
    | .now => w
    | .atCycle =>
      if w.st.stagingHeld then w
      else
        match w.st.checkStaging with
        | some (reason, position) =>
          { w with st := State.answerCheck { w.st with pendingLaunch := none } p.sender .atCycle reason position }
        | none => w.applyLaunch (some (p.sender, .atCycle))
  | none => w

/-- The heel and the beat of an accepted cycle start, each taken now when its flag says so (R166). -/
def State.takePace (s : State) (heel : Word16) (takesHeel takesBeat : Bool) : State :=
  let s1 := if takesHeel then s.takeHeel heel else s
  if takesBeat then s1.realignBeat else s1

/-- An accepted cycle start handed to its four blocks; the report is built last and shows what the others left (R166,
R173, R181). Log entry 7: whether the launch goes before the heel and before the beat is free. -/
def Work.accept (w : Work) (cycle : Byte) (heel : Word16) (before : Ports) : State :=
  let n := w.st.choices
  let heelLater := Config.launchBeforeHeel n
  let beatLater := Config.launchBeforeBeat n
  let s1 := State.takePace { w.st with choices := n + 1 } heel (!heelLater) (!beatLater)
  let s2 := (Work.takeCycleLaunch { w with st := s1 }).finish
  (s2.takePace heel heelLater beatLater).report cycle before

/-- A CYCLE-START at loop `l`'s supervisor (R164): none is taken in start-up, under an address fault, in the restart wait
or from another address than a station's. -/
def State.cycleStart (s : State) (l : LoopId) (src cycle : Byte) (heel : Word16) : State :=
  if s.actsOnFrames && isStation src then
    let p := s.supervisor l
    match p.window with
    | none => s
    | some t =>
      if t < p.windowMin then (Work.windowFault (Work.start s) l p).finish
      else
        let w := Work.takeSupervisor (Work.start s) l (p.timely s.tables.settings)
        if l = s.activeLoop then w.accept cycle heel s.ports else w.finish
  else s

/-- The expiry of loop `l`'s window (R165): taken only where the window timer stands at its maximum. -/
def State.windowExpiry (s : State) (l : LoopId) : State :=
  let p := s.supervisor l
  if p.expired then (Work.windowFault (Work.start s) l (p.restart s.tables.settings)).finish else s

/-! ## The commands -/

/-- CYCLE_START (R164 to R166). -/
def execCycleStart (l : LoopId) (src cycle : Byte) (heel : Word16) (s : State) : Host.Outcome State Fault Refusal :=
  .next (s.cycleStart l src cycle heel)

/-- WINDOW_EXPIRY (R165, R168 to R170). -/
def execWindowExpiry (l : LoopId) (s : State) : Host.Outcome State Fault Refusal := .next (s.windowExpiry l)

end Sys2Proof.Machine
end

