-- ==== Sys2Proof/Machine/Exchange.lean ====
section
/-! DEFINITION. Exchange.lean: the commands of the field lines: a POLL sent, a reply, a reply timeout (R139 to R150). -/

-- One declaration is checked after another, so that no worker threads pile up on a large machine.
set_option Elab.async false

namespace Sys2Proof.Machine

open Sys2Proof

/-! ## Polls (R139, R140) -/

/-- A line's POLL, sent when its poll timer has expired while polling is active (R139). -/
def State.sendPoll (s : State) : LineId → State
  | .door i =>
    let x := s.doorLines[i]
    if x.ctl.pollDue then s.setDoorLine i { x with ctl := x.ctl.poll Config.doorPollPeriod (s.doorPoll i) } else s
  | .group g =>
    let x := s.groupLines[g]
    if x.ctl.pollDue then s.setGroupLine g { x with ctl := x.ctl.poll Config.groupPollPeriod groupPoll } else s

/-! ## Door lines (R142, R143, R145 to R147) -/

/-- The changed flag of a door whose line state crossed LOST (R5). -/
def Work.markLine (w : Work) (i : DoorIx) (old new : LineState) : Work :=
  if crossesLost old new then w.modify i (fun d => { d with changed := true }) else w

/-- A good door REPORT taken: the line GOOD, the held report replaced, and the report handed on outside start-up (R143,
R147, R150). -/
def State.goodDoor (s : State) (i : DoorIx) (r : DoorReport) : State :=
  let old := s.doorLines[i].ctl.line
  let s1 := s.setDoorLine i (s.doorLines[i].good r)
  if s.handsOn then (((Work.start s1).markLine i old .good).takeReport i r).finish else s1

/-- A miss on a door line; an entry to LOST is handed to the door machine outside start-up (R142, R145, R146, R150). -/
def State.missDoor (s : State) (i : DoorIx) : State :=
  let old := s.doorLines[i].ctl.line
  let s1 := s.setDoorLine i s.doorLines[i].miss
  if s.handsOn && decide (old = .missed2) then (((Work.start s1).markLine i old .lost).loseLine i).finish else s1

/-- A reply on a door line: late when no POLL is outstanding; a good REPORT or a miss otherwise (R141, R142). -/
def State.doorReply (s : State) (i : DoorIx) (bytes : List Byte) : State :=
  match s.doorLines[i].ctl.replyWait with
  | none => s
  | some _ =>
    match doorReportOfBytes bytes with
    | some r => s.goodDoor i r
    | none => s.missDoor i

/-! ## Group lines (R142, R144 to R147) -/

/-- A good group REPORT taken: the line GOOD, the held report replaced, and the supply and the temperature handed on
outside start-up (R144, R147, R150). -/
def State.goodGroup (s : State) (g : GroupIx) (r : GroupReport) : State :=
  let s1 := s.setGroupLine g (s.groupLines[g].good r)
  if s.handsOn then ((Work.start s1).takeGroupReport g r).finish else s1

/-- A miss on a group line: outside start-up the entry to MISSED(1) sets the held flag, and the entry to LOST takes the
supply as ACCUMULATOR (R77, R142, R145, R146, R150). -/
def State.missGroup (s : State) (g : GroupIx) : State :=
  let s1 := s.setGroupLine g s.groupLines[g].miss
  if s.handsOn then
    match s.groupLines[g].ctl.line with
    | .good => ((Work.start s1).setHeldFlag g).st
    | .missed1 => s1
    | .missed2 => ((Work.start s1).setSupply g .accumulator).finish
    | .lost => s1
  else s1

/-- A reply on a group line (R141, R142). -/
def State.groupReply (s : State) (g : GroupIx) (bytes : List Byte) : State :=
  match s.groupLines[g].ctl.replyWait with
  | none => s
  | some _ =>
    match groupReportOfBytes bytes with
    | some r => s.goodGroup g r
    | none => s.missGroup g

/-! ## The reply timeout (R142) -/

/-- The reply timeout of an outstanding POLL: one miss (R142). -/
def State.replyTimeout (s : State) : LineId → State
  | .door i => if s.doorLines[i].ctl.replyWait.isSome then s.missDoor i else s
  | .group g => if s.groupLines[g].ctl.replyWait.isSome then s.missGroup g else s

/-! ## The commands -/

/-- LINE_POLL (R139, R140). -/
def execLinePoll (line : LineId) (s : State) : Host.Outcome State Fault Refusal := .next (s.sendPoll line)

/-- DOOR_REPORT_ARRIVAL (R141 to R143). -/
def execDoorReportArrival (i : DoorIx) (bytes : List Byte) (s : State) : Host.Outcome State Fault Refusal :=
  .next (s.doorReply i bytes)

/-- GROUP_REPORT_ARRIVAL (R141, R142, R144). -/
def execGroupReportArrival (g : GroupIx) (bytes : List Byte) (s : State) : Host.Outcome State Fault Refusal :=
  .next (s.groupReply g bytes)

/-- LINE_REPLY_TIMEOUT (R142, R145, R146). -/
def execLineReplyTimeout (line : LineId) (s : State) : Host.Outcome State Fault Refusal := .next (s.replyTimeout line)

end Sys2Proof.Machine
end

