-- ==== Sys2Proof/Machine/Expiry.lean ====
section
/-! DEFINITION. Expiry.lean: the expiries of the doors' timers, the lamp beat, the compensation periods, the step timer and
the transfer timer. Each acts only where its timer runs and stands at its end (log entry 10). -/

-- One declaration is checked after another, so that no worker threads pile up on a large machine.
set_option Elab.async false

namespace Sys2Proof.Machine

open Sys2Proof

/-! ## Doors (R12, R31, R87) -/

/-- Whether a door's warning timer has run out (R12). -/
def DoorRuntime.warningDue (d : DoorRuntime) : Bool := d.state = .warning && d.timer = some 0

/-- Whether a door's reclose timer has run out (R31). -/
def DoorRuntime.recloseDue (d : DoorRuntime) : Bool := d.state = .recloseWait && d.timer = some 0

/-- The doors for which `p` holds, as a set. -/
def State.doorsWhere (s : State) (p : DoorRuntime → Bool) : DoorSet :=
  (allDoors.filter (fun i => p s.doors[i])).foldl (fun set i => set ||| doorBit i) 0

/-- One event over the doors of a set for which `p` holds, in ascending index. -/
def Work.eachDue (w : Work) (set : DoorSet) (p : DoorRuntime → Bool) (f : Work → DoorIx → Work) : Work :=
  ((members set).filter (fun i => p w.st.doors[i])).foldl f w

/-- A warning ends: QUEUED(close) with the origin kept (R12). -/
def Work.endWarning (w : Work) (i : DoorIx) : Work := (w.modify i (fun d => { d with timer := none })).raise i .close

/-- A reclose delay ends: a close order of origin RECLOSE with pre-warning (R31). -/
def Work.endReclose (w : Work) (i : DoorIx) : Work := w.closeOrder i .reclose true

/-- The warning timers of a set of doors expire together (R12). -/
def State.warningExpiry (s : State) (set : DoorSet) : State :=
  ((Work.start s).eachDue set DoorRuntime.warningDue Work.endWarning).finish

/-- The reclose timers of a set of doors expire together (R31). -/
def State.recloseExpiry (s : State) (set : DoorSet) : State :=
  ((Work.start s).eachDue set DoorRuntime.recloseDue Work.endReclose).finish

/-- The deadlines of a set of doors reach 0 together (R15, R23, R87). -/
def State.deadlineExpiry (s : State) (set : DoorSet) : State :=
  ((Work.start s).eachDue set (fun d => d.deadline.expired) Work.deadlineEnd).finish

/-! ## The lamp beat (R7) -/

/-- The half-period timer's expiry: the phase toggles, and the timer restarts from the settings (R7). -/
def State.beatExpiry (s : State) : State :=
  if s.beatTimer = some 0 then { s with beatOn := !s.beatOn, beatTimer := some s.tables.settings.beatHalf } else s

/-! ## Compensation (R78, R79) -/

/-- A compensation period's expiry: Tf recomputed, the period restarted (R78, R79). -/
def State.compensationExpiry (s : State) (g : GroupIx) : State :=
  let r := s.groups[g]
  if r.period = some 0 then
    { s with groups := upd s.groups g { r with
      tf := temperatureFactor r.heldTemp s.tables.groups[g].tRef s.tables.groups[g].coefficient
      period := some Config.compensationPeriod } }
  else s

/-! ## The plan and the transfer (R104, R133) -/

/-- Whether the current step has run out of time: RUNNING with the timer at 0 (R104). -/
def PlanEngine.stepDue (p : PlanEngine) : Bool :=
  match p.engine with
  | .running _ => p.stepTimer = .running 0
  | .idle => false
  | .suspended _ => false
  | .done => false

/-- The step timer's expiry (R104). -/
def State.stepExpiry (s : State) : State := if s.plan.stepDue then (Work.start s).overrun.finish else s

/-- The transfer timer's expiry: the transfer clears and its requester receives TIMEOUT (R133). -/
def State.transferExpiry (s : State) : State :=
  match s.transfer with
  | some t =>
    if t.timer = 0 then State.answer { s with transfer := none } t.requester (OrderTag.authRequest false) .timeout else s
  | none => s

/-! ## The commands -/

/-- WARNING_EXPIRY (R12). -/
def execWarningExpiry (doors : DoorSet) (s : State) : Host.Outcome State Fault Refusal := .next (s.warningExpiry doors)

/-- RECLOSE_EXPIRY (R31). -/
def execRecloseExpiry (doors : DoorSet) (s : State) : Host.Outcome State Fault Refusal := .next (s.recloseExpiry doors)

/-- DEADLINE_EXPIRY (R15, R23, R87). -/
def execDeadlineExpiry (doors : DoorSet) (s : State) : Host.Outcome State Fault Refusal := .next (s.deadlineExpiry doors)

/-- BEAT_TIMER_EXPIRY (R7). -/
def execBeatTimerExpiry (s : State) : Host.Outcome State Fault Refusal := .next s.beatExpiry

/-- COMPENSATION_EXPIRY (R78, R79). -/
def execCompensationExpiry (g : GroupIx) (s : State) : Host.Outcome State Fault Refusal := .next (s.compensationExpiry g)

/-- STEP_TIMER_EXPIRY (R104). -/
def execStepTimerExpiry (s : State) : Host.Outcome State Fault Refusal := .next s.stepExpiry

/-- TRANSFER_TIMER_EXPIRY (R133). -/
def execTransferTimerExpiry (s : State) : Host.Outcome State Fault Refusal := .next s.transferExpiry

end Sys2Proof.Machine
end

