-- ==== Sys2Proof/Machine/Startup.lean ====
section
/-! DEFINITION. Startup.lean: resets and start-up: the straps, the start-up load, the placing of the tables, and the end
of start-up (R34, R73, R91, R113, R138, R150, R151, R153, R158, R171, R202, R203). -/

-- One declaration is checked after another, so that no worker threads pile up on a large machine.
set_option Elab.async false

namespace Sys2Proof.Machine

open Sys2Proof

/-! ## Reset (R203) -/

/-- The state right after a reset, whatever its cause: every piece of state at its reset value, the scheme fuse kept, and
the inhibited flags as the scheme then gives them (R4, R47, R49, R51, R203). A reset that cuts a SAVE short leaves a torn
image in the store (R200). -/
def State.toReset (s : State) (cause : ResetCause) : State :=
  { State.reset with
    resetCause := cause
    schemeFuse := s.schemeFuse
    doors := Vector.ofFn (fun i =>
      DoorRuntime.reset .absent (inhibitedBy s.schemeFuse (BitVec.allOnes 24) Settings.default i))
    storeTorn := s.storeTorn || s.storeEngine = .saving
    choices := s.choices
    pending := s.pending }

/-- Start-up begins: the straps are read and the start-up load is started (R153, R202). DESIGN CHOICE, log entry 23: the
load in progress is held in the phase and the store timer, and the store engine stays IDLE. -/
def State.beginStartUp (s : State) (straps : BitVec 7) : State :=
  { s with straps := straps, phase := .loading, storeTimer := some Config.loadTime }

/-! ## The start-up load (R202) -/

/-- What a read of the store image gives: the image's entries when it is good; an image that a reset tore has a CRC that
does not match (R198, R200). -/
def State.storeRead (s : State) (image : List Byte) : Option (List Entry) :=
  if s.storeTorn then none else goodImage image

/-- The live tables that a start-up load leaves: those of a good image, or the empty tables (R185, R202). -/
def loadedTables : Option (List Entry) → Tables
  | some es => writeEntries Tables.empty es
  | none => Tables.empty

/-- A door's runtime record when the start-up load has placed the tables: present doors UNKNOWN, the others ABSENT, the
changed flag clear (R4, R34, R179). -/
def State.startDoor (s : State) (ts : Tables) (i : DoorIx) : DoorRuntime :=
  DoorRuntime.reset (if ts.doors[i].present then .unknown else .absent)
    (inhibitedBy s.schemeFuse s.inhibitSet ts.settings i)

/-- The section mode at the end of the load: the start mode, or WORKING under an address fault (R123, R154). -/
def State.startMode (s : State) (ts : Tables) : Mode := if s.addressFault then .working else ts.settings.startMode

/-- Polling begun on the lines of the present doors and groups, each with its first POLL at once (R150). -/
def State.startLines (s : State) : State :=
  let s1 := allDoors.foldl (fun s i => if s.tables.doors[i].present then s.startDoorLine i else s) s
  allGroups.foldl (fun s g => if s.tables.groups[g].present then s.startGroupLine g else s) s1

/-- The start-up load completed, with a good image or without: the tables are placed as a launch with no owner and no
result, and the lines begin polling (R123, R150, R168, R185, R202). -/
def State.placeTables (s : State) (es : Option (List Entry)) : State :=
  let ts := loadedTables es
  State.startLines { s with
    tables := ts
    tablesFromStore := es.isSome
    doors := Vector.ofFn (s.startDoor ts)
    mode := s.startMode ts
    activeLoop := ts.settings.preferredLoop
    storeTimer := none
    phase := .settling }

/-! ## The end of start-up (R151, R202) -/

/-- Whether a line that is polled has settled its first POLL; a line that is not polled counts (R150). -/
def LineControl.ready (c : LineControl) : Bool := !c.polling || c.settled

/-- Whether start-up can end: the tables are placed and every present line has settled its first POLL (R150, R202). -/
def State.startUpReady (s : State) : Bool :=
  s.phase = .settling && allDoors.all (fun i => s.doorLines[i].ctl.ready)
    && allGroups.all (fun g => s.groupLines[g].ctl.ready)

/-- A port whose supervisor's window starts (R163). -/
def Port.startWindow (p : Port) (st : Settings) : Port := { p with sup := p.sup.restart st }

/-- The timers that start at the end of start-up: the compensation periods, the beat timer, and the windows on a node
without an address fault (R7, R78, R163, R202). -/
def State.startTimers (s : State) : State :=
  let st := s.tables.settings
  { s with
    phase := .running
    groups := s.groups.map (fun g => { g with period := some Config.compensationPeriod })
    beatTimer := some st.beatHalf
    ports := if s.addressFault then s.ports
      else { a := s.ports.a.startWindow st, b := s.ports.b.startWindow st } }

/-- A door line's held report handed at the end of start-up; a LOST line has none (R151). -/
def Work.handDoor (w : Work) (i : DoorIx) : Work :=
  if w.st.doorLines[i].ctl.line = .lost then w
  else
    match w.st.doorLines[i].held with
    | some r => w.takeReport i r
    | none => w

/-- A group line's held report handed at the end of start-up, and the held flag of a present group whose line is not
GOOD (R77, R151). -/
def Work.handGroup (w : Work) (g : GroupIx) : Work :=
  let w1 :=
    if w.st.groupLines[g].ctl.line = .lost then w
    else
      match w.st.groupLines[g].held with
      | some r => w.takeGroupReport g r
      | none => w
  if w.st.tables.groups[g].present && w.st.groupLines[g].ctl.line != .good then w1.setHeldFlag g else w1

/-- The end of start-up (R151, R202): taken only when `startUpReady`. -/
def State.endStartUp (s : State) : State :=
  if s.startUpReady then
    let w := allDoors.foldl Work.handDoor (Work.start s.startTimers)
    (allGroups.foldl Work.handGroup w).finish
  else s

/-! ## The restart wait (R203) -/

/-- Whether a RESTART's DONE, the last frame placed, has left a queue it was placed in (R160, R203). -/
def Port.doneLeft (p : Port) (placed : Bool) : Bool := !placed || p.insertion.isEmpty

/-- Whether the reset of a RESTART is due (R203). -/
def State.restartDue (s : State) : Bool :=
  match s.phase with
  | .restartWait placedA placedB => s.ports.a.doneLeft placedA && s.ports.b.doneLeft placedB
  | .inReset => false
  | .loading => false
  | .settling => false
  | .running => false

/-! ## The commands -/

/-- POWER_UP (R203): the reset of cause POWER, and start-up. -/
def execPowerUp (straps : BitVec 7) (s : State) : Host.Outcome State Fault Refusal :=
  .next ((s.toReset .power).beginStartUp straps)

/-- RESET_LINE_ASSERT (R203): the reset of cause LINE; start-up waits for the release. -/
def execResetLineAssert (s : State) : Host.Outcome State Fault Refusal := .next (s.toReset .line)

/-- RESET_LINE_RELEASE (R202, R203): start-up begins; a release outside a reset finds nothing to begin. -/
def execResetLineRelease (straps : BitVec 7) (s : State) : Host.Outcome State Fault Refusal :=
  .next (if s.phase = .inReset then s.beginStartUp straps else s)

/-- STARTUP_LOAD_COMPLETE (R202): the image read is placed when it is good, else the tables are left empty; outside the
start-up load no image is awaited. -/
def execStartupLoadComplete (image : List Byte) (s : State) : Host.Outcome State Fault Refusal :=
  .next (if s.phase = .loading then s.placeTables (s.storeRead image) else s)

/-- STARTUP_LOAD_TIMEOUT (R202): 10 tenths without an image count as a bad image. -/
def execStartupLoadTimeout (s : State) : Host.Outcome State Fault Refusal :=
  .next (if s.phase = .loading ∧ s.storeTimer = some 0 then s.placeTables none else s)

/-- START_UP_END (R151, R202). -/
def execStartUpEnd (s : State) : Host.Outcome State Fault Refusal := .next s.endStartUp

/-- RESTART_RESET (R203): the reset of cause ORDER once the RESTART's DONE has left every queue it was placed in. -/
def execRestartReset (straps : BitVec 7) (s : State) : Host.Outcome State Fault Refusal :=
  .next (if s.restartDue then (s.toReset .order).beginStartUp straps else s)

end Sys2Proof.Machine
end

