-- ==== Sys2Proof/Machine/Clock.lean ====
section
/-! DEFINITION. Clock.lean: what an idle node does (log entry 4): the next of its own commands that is due, or, when none
is, one tick of 1 tenth on every timer that counts (R1). -/

-- One declaration is checked after another, so that no worker threads pile up on a large machine.
set_option Elab.async false

namespace Sys2Proof.Machine

open Sys2Proof

/-! ## What is due -/

/-- The lines, doors first. -/
def allLines : List LineId := allDoors.map LineId.door ++ allGroups.map LineId.group

/-- A line's controller. -/
def State.lineControl (s : State) : LineId → LineControl
  | .door i => s.doorLines[i].ctl
  | .group g => s.groupLines[g].ctl

/-- The first outstanding POLL: its 20 ms end before the next tick (R139, R142). -/
def State.timeoutDue (s : State) : Option Instr :=
  (allLines.find? (fun l => (s.lineControl l).replyWait.isSome)).map Instr.lineReplyTimeout

/-- The first line whose poll timer has expired (R139). -/
def State.pollDueNow (s : State) : Option Instr :=
  (allLines.find? (fun l => (s.lineControl l).pollDue)).map Instr.linePoll

/-- The command of a set of doors whose timers have run out together, when there is one (R12). -/
def dueSet (set : DoorSet) (command : DoorSet → Instr) : Option Instr := if set = 0 then none else some (command set)

/-- A command when its condition holds. -/
def dueIf (due : Bool) (command : Instr) : Option Instr := if due then some command else none

/-- The first group whose compensation period has run out (R78). -/
def State.compensationDue (s : State) : Option Instr :=
  (allGroups.find? (fun g => decide (s.groups[g].period = some 0))).map Instr.compensationExpiry

/-- Whether a pending transfer's timer has run out (R133). -/
def State.transferDue (s : State) : Bool :=
  match s.transfer with
  | some t => t.timer = 0
  | none => false

/-- Whether the store timer of the start-up load has run out (R202). -/
def State.startUpLoadDue (s : State) : Bool := s.phase = .loading && s.storeTimer = some 0

/-- Whether the store timer of a store operation has run out (R200, R201). -/
def State.storeDue (s : State) (e : StoreEngine) : Bool := s.storeEngine = e && s.storeTimer = some 0

/-- The commands of the node itself that can be due, in the order an idle node takes them (log entry 4). -/
def State.dueList (s : State) : List (Option Instr) :=
  [dueIf s.startUpReady .startUpEnd, s.timeoutDue, dueIf s.startUpLoadDue .startupLoadTimeout,
    dueSet (s.doorsWhere (fun d => d.deadline.expired)) .deadlineExpiry,
    dueSet (s.doorsWhere DoorRuntime.warningDue) .warningExpiry,
    dueSet (s.doorsWhere DoorRuntime.recloseDue) .recloseExpiry,
    dueIf s.plan.stepDue .stepTimerExpiry, dueIf s.transferDue .transferTimerExpiry,
    dueIf (s.supervisor .a).expired (.windowExpiry .a), dueIf (s.supervisor .b).expired (.windowExpiry .b),
    dueIf (s.beatTimer = some 0) .beatTimerExpiry, s.compensationDue, dueIf (s.storeDue .saving) .saveTimeout,
    dueIf (s.storeDue .loading) .loadStoreTimeout, s.pollDueNow]

/-- The next command of the node itself that is due. -/
def State.nextDue (s : State) : Option Instr := s.dueList.findSome? id

/-! ## One tick -/

/-- A timer that counts down while it runs. -/
def countDown (t : Option Nat) : Option Nat := t.map (fun n => n - 1)

/-- A door's timers after one tick: warning, reclose, deadline and travel (R12, R31, R85). -/
def DoorRuntime.tick (d : DoorRuntime) : DoorRuntime :=
  { d with timer := countDown d.timer, deadline := d.deadline.down, travel := d.travel.up }

/-- A group's compensation period after one tick (R78). -/
def GroupRuntime.tick (g : GroupRuntime) : GroupRuntime := { g with period := countDown g.period }

/-- A line's poll timer after one tick (R139). -/
def LineControl.tick (c : LineControl) : LineControl := { c with pollTimer := countDown c.pollTimer }

/-- A window timer after one tick: it counts up from the window's start (R163). -/
def Port.tick (p : Port) : Port := { p with sup := { p.sup with window := p.sup.window.map (fun n => n + 1) } }

/-- A step timer after one tick (R100, R108). -/
def StepTimer.tick : StepTimer → StepTimer
  | .running n => .running (n - 1)
  | .frozen n => .frozen n
  | .stopped => .stopped

/-- One tick of 1 tenth on every timer of the node (R1); a timer that does not run stays. -/
def State.tick (s : State) : State :=
  { s with
    doors := s.doors.map DoorRuntime.tick
    doorLines := s.doorLines.map (fun l => { l with ctl := l.ctl.tick })
    groups := s.groups.map GroupRuntime.tick
    groupLines := s.groupLines.map (fun l => { l with ctl := l.ctl.tick })
    beatTimer := countDown s.beatTimer
    plan := { s.plan with stepTimer := s.plan.stepTimer.tick }
    transfer := s.transfer.map (fun t => { t with timer := t.timer - 1 })
    ports := { a := s.ports.a.tick, b := s.ports.b.tick }
    storeTimer := countDown s.storeTimer }

end Sys2Proof.Machine
end

