-- ==== Sys2Proof/Machine/Orders.lean ====
section
/-! DEFINITION. Orders.lean: the door orders, the section orders, the authority orders and the table orders, each through
the order decoder to its owner (R25 to R29, R50, R93, R97, R107, R109, R117 to R120, R124, R126, R129 to R132, R182, R189,
R192, R197). -/

-- One declaration is checked after another, so that no worker threads pile up on a large machine.
set_option Elab.async false

namespace Sys2Proof.Machine

open Sys2Proof

/-! ## Door orders (R117, R119) -/

/-- A DOOR-ORDER through the order decoder: rights, then the door index, then its owner; the result is placed before
those of a run that the order's effect ends (R117, R119, R195). -/
def State.takeDoorOrder (s : State) (src action door : Byte) (need : Need)
    (owner : Work → DoorIx → Work × OrderOutcome) : State :=
  let tag := OrderTag.doorOrder action door
  s.takeOrder src tag need (fun n =>
    match doorOfByte door with
    | none => s.answer n tag .range
    | some i =>
      let r := owner (Work.start s) i
      (r.1.answer n tag r.2).finish)

/-- DOOR-ORDER CLOSE (R26, R118). -/
def State.orderClose (s : State) (src door : Byte) : State :=
  s.takeDoorOrder src 1#8 door .enrolled (fun w i => w.doorOrder i .close)

/-- DOOR-ORDER OPEN (R27, R118). -/
def State.orderOpen (s : State) (src door : Byte) : State :=
  s.takeDoorOrder src 2#8 door .authority (fun w i => w.doorOrder i .open)

/-- DOOR-ORDER STOP (R28, R118). -/
def State.orderStop (s : State) (src door : Byte) : State :=
  s.takeDoorOrder src 3#8 door .authority (fun w i => w.doorOrder i .stop)

/-- DOOR-ORDER ACK (R29, R118). -/
def State.orderAck (s : State) (src door : Byte) : State :=
  s.takeDoorOrder src 4#8 door .command (fun w i => w.doorOrder i .ack)

/-- DOOR-ORDER INHIBIT (R50, R118). -/
def State.orderInhibit (s : State) (src door : Byte) : State :=
  s.takeDoorOrder src 5#8 door .authority (fun w i => w.inhibitOrder i true)

/-- DOOR-ORDER RELEASE (R50, R118). -/
def State.orderRelease (s : State) (src door : Byte) : State :=
  s.takeDoorOrder src 6#8 door .authority (fun w i => w.inhibitOrder i false)

/-! ## Section orders (R93, R97, R107, R109, R120, R124, R126) -/

/-- A SECTION-ORDER through the order decoder to its owner (R117, R120, R195). -/
def State.takeSectionOrder (s : State) (src sub : Byte) (need : Need) (owner : Work → Work × OrderOutcome) : State :=
  s.takeOrder src (OrderTag.section_ sub) need (fun n =>
    let r := owner (Work.start s)
    (r.1.answer n (OrderTag.section_ sub) r.2).finish)

/-- SET-MODE SEA at the mode logic (R124). -/
def Work.takeSea (w : Work) : Work × OrderOutcome := (if w.st.mode = .sea then w else w.enterSea, .done)

/-- SET-MODE WORKING at the mode logic (R126). -/
def Work.takeWorking (w : Work) : Work × OrderOutcome := (if w.st.mode = .working then w else w.enterWorking, .done)

/-- RERUN at the plan engine (R97). -/
def Work.takeRerun (w : Work) : Work × OrderOutcome :=
  if w.st.mode = .working then (w, .badMode)
  else if w.st.plan.engine.inRun then (w, .planRunning)
  else (w.rerun, .done)

/-- SUSPEND at the plan engine (R107). -/
def Work.takeSuspend (w : Work) : Work × OrderOutcome :=
  match w.st.plan.engine with
  | .running k => (w.suspendRun k, .done)
  | .idle => (w, .notRunning)
  | .suspended _ => (w, .notRunning)
  | .done => (w, .notRunning)

/-- RESUME at the plan engine (R109). -/
def Work.takeResume (w : Work) : Work × OrderOutcome :=
  match w.st.plan.engine with
  | .suspended k => (w.resumeRun k, .done)
  | .idle => (w, .notSuspended)
  | .running _ => (w, .notSuspended)
  | .done => (w, .notSuspended)

/-- The bank a SELECT-PLAN names (R93). -/
def bankOfByte (b : Byte) : Option BankIx := if h : b.toNat < 2 then some ⟨b.toNat, h⟩ else none

/-- The active plan bank field of the live settings set (R93). -/
def State.setActiveBank (s : State) (b : BankIx) : State :=
  { s with tables := { s.tables with settings := { s.tables.settings with activeBank := b } } }

/-- SELECT-PLAN at the plan engine (R93). -/
def Work.takeSelect (w : Work) (bank : Byte) : Work × OrderOutcome :=
  match bankOfByte bank with
  | none => (w, .range)
  | some b =>
    if w.st.plan.engine.inRun then (w, .planRunning) else ({ w with st := w.st.setActiveBank b }, .done)

/-- SECTION-ORDER SET-MODE SEA (R118, R124). -/
def State.orderSea (s : State) (src : Byte) : State := s.takeSectionOrder src 1#8 .enrolled Work.takeSea

/-- SECTION-ORDER SET-MODE WORKING (R118, R126). -/
def State.orderWorking (s : State) (src : Byte) : State := s.takeSectionOrder src 2#8 .authority Work.takeWorking

/-- SECTION-ORDER RERUN (R97, R118). -/
def State.orderRerun (s : State) (src : Byte) : State := s.takeSectionOrder src 3#8 .enrolled Work.takeRerun

/-- SECTION-ORDER SUSPEND (R107, R118). -/
def State.orderSuspend (s : State) (src : Byte) : State := s.takeSectionOrder src 4#8 .authority Work.takeSuspend

/-- SECTION-ORDER RESUME (R109, R118). -/
def State.orderResume (s : State) (src : Byte) : State := s.takeSectionOrder src 5#8 .authority Work.takeResume

/-- SECTION-ORDER SELECT-PLAN (R93, R118). -/
def State.orderSelect (s : State) (src bank : Byte) : State :=
  s.takeSectionOrder src 6#8 .authority (fun w => w.takeSelect bank)

/-! ## Authority orders (R129 to R132) -/

/-- The tag of an AUTH-RELEASE (R205). -/
def OrderTag.authRelease : OrderTag := OrderTag.other 0x05#8 0#8

/-- The tag of an AUTH-DENY (R205). -/
def OrderTag.authDeny : OrderTag := OrderTag.other 0x06#8 0#8

/-- A transfer made pending for a requester, its timer loaded from the live settings (R129). -/
def State.makePending (s : State) (n : Slot) : State :=
  { s with transfer := some { requester := n, timer := s.tables.settings.transferTimeout } }

/-- A request without the forced flag at the authority logic: the first row of R129 that holds, answered under `tag`. -/
def State.request (s : State) (n : Slot) (tag : OrderTag) : State :=
  if s.holder = none then State.answer { s with holder := some n } n tag .granted
  else if s.holder = some n then s.answer n tag .granted
  else
    match s.transfer with
    | none => s.makePending n |>.answer n tag .pending
    | some t => if t.requester = n then s.answer n tag .pending else s.answer n tag .transferBusy

/-- A forced request at the authority logic (R130). -/
def State.requestForced (s : State) (n : Slot) : State :=
  let tag := OrderTag.authRequest true
  if s.holder = none ∨ s.holder = some n then s.request n tag
  else
    match s.transfer with
    | none => State.answer { s with holder := some n } n tag .granted
    | some t =>
      let s1 : State := { s with holder := some n, transfer := none }
      let s2 := if t.requester = n then s1 else s1.answer t.requester (OrderTag.authRequest false) .superseded
      s2.answer n tag .granted

/-- AUTH-RELEASE at the authority logic (R131). -/
def State.releaseAuthority (s : State) (n : Slot) : State :=
  if s.holder = some n then
    match s.transfer with
    | some t =>
      (State.answer { s with holder := some t.requester, transfer := none } n OrderTag.authRelease .done).answer
        t.requester (OrderTag.authRequest false) .granted
    | none => State.answer { s with holder := none } n OrderTag.authRelease .done
  else s.answer n OrderTag.authRelease .notHolder

/-- AUTH-DENY at the authority logic (R132). -/
def State.denyTransfer (s : State) (n : Slot) : State :=
  if s.holder = some n then
    match s.transfer with
    | some t =>
      (State.answer { s with transfer := none } n OrderTag.authDeny .done).answer
        t.requester (OrderTag.authRequest false) .denied
    | none => s.answer n OrderTag.authDeny .noPending
  else s.answer n OrderTag.authDeny .notHolder

/-- AUTH-REQUEST, the forced flag clear (R118, R129). -/
def State.orderRequest (s : State) (src : Byte) : State :=
  s.takeOrder src (OrderTag.authRequest false) .command (fun n => s.request n (OrderTag.authRequest false))

/-- AUTH-REQUEST, the forced flag set (R118, R130). -/
def State.orderRequestForced (s : State) (src : Byte) : State :=
  s.takeOrder src (OrderTag.authRequest true) .command s.requestForced

/-- AUTH-RELEASE (R118, R131). -/
def State.orderAuthRelease (s : State) (src : Byte) : State :=
  s.takeOrder src OrderTag.authRelease .enrolled s.releaseAuthority

/-- AUTH-DENY (R118, R132). -/
def State.orderAuthDeny (s : State) (src : Byte) : State :=
  s.takeOrder src OrderTag.authDeny .enrolled s.denyTransfer

/-! ## Table orders (R182, R183, R189, R192, R197) -/

/-- The tag of a TABLE-WRITE (R205). -/
def OrderTag.tableWrite : OrderTag := OrderTag.other 0x07#8 0#8

/-- The tag of a DISCARD (R205). -/
def OrderTag.discard : OrderTag := OrderTag.other 0x09#8 0#8

/-- The tag of a TABLE-READ (R205). -/
def OrderTag.tableRead : OrderTag := OrderTag.other 0x0A#8 0#8

/-- An order that fails the form check: RANGE to a sender with standing (R116, R117, step 1). -/
def State.refuseForm (s : State) (src : Byte) (tag : OrderTag) : State :=
  s.takeOrder src tag .enrolled (fun n => s.answer n tag .range)

/-- A TABLE-WRITE taken by the table manager and answered (R189). -/
def State.takeWrite (s : State) (n : Slot) (t : TableId) (start count : Byte) (records : List Byte) : State :=
  let r := s.stageWrite n t start count records
  r.1.answer n OrderTag.tableWrite r.2

/-- TABLE-WRITE: the form of its records, then the manage right, then the table manager (R117, R118, R189, R205). -/
def State.orderWrite (s : State) (src : Byte) (t : TableId) (start count : Byte) (records : List Byte) : State :=
  if s.writeFormOk t start count records then
    s.takeOrder src OrderTag.tableWrite .manage (fun n => s.takeWrite n t start count records)
  else s.refuseForm src OrderTag.tableWrite

/-- A launch made pending for its sender (R192). -/
def State.holdLaunch (s : State) (n : Slot) (m : LaunchMode) : State :=
  State.answer { s with pendingLaunch := some { mode := m, sender := n, silent := false } } n (OrderTag.launch m)
    .pending

/-- A LAUNCH at the table manager: the first row of R192 that holds. -/
def State.takeLaunch (s : State) (n : Slot) (m : LaunchMode) : State :=
  let tag := OrderTag.launch m
  if s.staging = [] then s.answer n tag .nothingStaged
  else if s.stagingOwner ≠ some n then s.answer n tag .stagingOwned
  else if s.pendingLaunch.isSome then s.answer n tag .stagingBusy
  else
    match m with
    | .atCycle => s.holdLaunch n m
    | .now =>
      match s.checkStaging with
      | some (reason, position) => s.answerCheck n m reason position
      | none => if s.stagingHeld then s.holdLaunch n m else (Work.applyLaunch (Work.start s) (some (n, m))).finish

/-- LAUNCH NOW (R118, R192). -/
def State.orderLaunchNow (s : State) (src : Byte) : State :=
  s.takeOrder src (OrderTag.launch .now) .manage (fun n => s.takeLaunch n .now)

/-- LAUNCH AT-CYCLE (R118, R192). -/
def State.orderLaunchAtCycle (s : State) (src : Byte) : State :=
  s.takeOrder src (OrderTag.launch .atCycle) .manage (fun n => s.takeLaunch n .atCycle)

/-- DISCARD at the table manager (R197). -/
def State.takeDiscard (s : State) (n : Slot) : State :=
  State.answer (if s.staging = [] then s else s.clearStaging) n OrderTag.discard .done

/-- DISCARD (R118, R197). -/
def State.orderDiscard (s : State) (src : Byte) : State := s.takeOrder src OrderTag.discard .manage s.takeDiscard

/-- TABLE-READ (R118, R182, R183). -/
def State.orderRead (s : State) (src : Byte) (t : TableId) (start count : Byte) : State :=
  s.takeOrder src OrderTag.tableRead .manage (fun n => s.readTable n OrderTag.tableRead t start count)

/-! ## The commands -/

/-- DOOR_ORDER_CLOSE (R26). -/
def execDoorOrderClose (src door : Byte) (s : State) : Host.Outcome State Fault Refusal := .next (s.orderClose src door)

/-- DOOR_ORDER_OPEN (R27). -/
def execDoorOrderOpen (src door : Byte) (s : State) : Host.Outcome State Fault Refusal := .next (s.orderOpen src door)

/-- DOOR_ORDER_STOP (R28). -/
def execDoorOrderStop (src door : Byte) (s : State) : Host.Outcome State Fault Refusal := .next (s.orderStop src door)

/-- DOOR_ORDER_ACK (R29). -/
def execDoorOrderAck (src door : Byte) (s : State) : Host.Outcome State Fault Refusal := .next (s.orderAck src door)

/-- DOOR_ORDER_INHIBIT (R50). -/
def execDoorOrderInhibit (src door : Byte) (s : State) : Host.Outcome State Fault Refusal :=
  .next (s.orderInhibit src door)

/-- DOOR_ORDER_RELEASE (R50). -/
def execDoorOrderRelease (src door : Byte) (s : State) : Host.Outcome State Fault Refusal :=
  .next (s.orderRelease src door)

/-- SET_MODE_SEA (R124). -/
def execSetModeSea (src : Byte) (s : State) : Host.Outcome State Fault Refusal := .next (s.orderSea src)

/-- SET_MODE_WORKING (R126). -/
def execSetModeWorking (src : Byte) (s : State) : Host.Outcome State Fault Refusal := .next (s.orderWorking src)

/-- RERUN (R97). -/
def execRerun (src : Byte) (s : State) : Host.Outcome State Fault Refusal := .next (s.orderRerun src)

/-- SUSPEND (R107). -/
def execSuspend (src : Byte) (s : State) : Host.Outcome State Fault Refusal := .next (s.orderSuspend src)

/-- RESUME (R109). -/
def execResume (src : Byte) (s : State) : Host.Outcome State Fault Refusal := .next (s.orderResume src)

/-- SELECT_PLAN (R93). -/
def execSelectPlan (src bank : Byte) (s : State) : Host.Outcome State Fault Refusal := .next (s.orderSelect src bank)

/-- AUTH_REQUEST (R129). -/
def execAuthRequest (src : Byte) (s : State) : Host.Outcome State Fault Refusal := .next (s.orderRequest src)

/-- AUTH_REQUEST_FORCED (R130). -/
def execAuthRequestForced (src : Byte) (s : State) : Host.Outcome State Fault Refusal :=
  .next (s.orderRequestForced src)

/-- AUTH_RELEASE (R131). -/
def execAuthRelease (src : Byte) (s : State) : Host.Outcome State Fault Refusal := .next (s.orderAuthRelease src)

/-- AUTH_DENY (R132). -/
def execAuthDeny (src : Byte) (s : State) : Host.Outcome State Fault Refusal := .next (s.orderAuthDeny src)

/-- TABLE_WRITE (R189). -/
def execTableWrite (src : Byte) (t : TableId) (start count : Byte) (records : List Byte) (s : State) :
    Host.Outcome State Fault Refusal := .next (s.orderWrite src t start count records)

/-- LAUNCH_NOW (R192). -/
def execLaunchNow (src : Byte) (s : State) : Host.Outcome State Fault Refusal := .next (s.orderLaunchNow src)

/-- LAUNCH_AT_CYCLE (R192). -/
def execLaunchAtCycle (src : Byte) (s : State) : Host.Outcome State Fault Refusal := .next (s.orderLaunchAtCycle src)

/-- DISCARD (R197). -/
def execDiscard (src : Byte) (s : State) : Host.Outcome State Fault Refusal := .next (s.orderDiscard src)

/-- TABLE_READ (R183). -/
def execTableRead (src : Byte) (t : TableId) (start count : Byte) (s : State) : Host.Outcome State Fault Refusal :=
  .next (s.orderRead src t start count)

end Sys2Proof.Machine
end

