-- ==== Sys2Proof/Machine/Store.lean ====
section
/-! DEFINITION. Store.lean: the store engine, the scheme fuse and RESTART: the MANAGE-ORDERs and the store line's events
(R51, R198 to R201, R203). -/

-- One declaration is checked after another, so that no worker threads pile up on a large machine.
set_option Elab.async false

namespace Sys2Proof.Machine

open Sys2Proof

/-- The tags of the four MANAGE-ORDERs (R205). -/
def OrderTag.save : OrderTag := OrderTag.manage 1#8
/-- See `OrderTag.save`. -/
def OrderTag.loadStore : OrderTag := OrderTag.manage 2#8
/-- See `OrderTag.save`. -/
def OrderTag.fixScheme : OrderTag := OrderTag.manage 3#8
/-- See `OrderTag.save`. -/
def OrderTag.restart : OrderTag := OrderTag.manage 4#8

/-! ## SAVE (R199, R200) -/

/-- SAVE at the table manager (R199): the 71 live records are copied, and no result is placed. -/
def State.takeSave (s : State) (n : Slot) : State :=
  if s.storeEngine ≠ .idle then s.answer n OrderTag.save .saveBusy
  else
    { s with storeEngine := .saving, storeTimer := some Config.saveTime, saveImage := some s.tables
             storeSender := some n }

/-- The store engine back at IDLE (R200, R201). -/
def State.storeIdle (s : State) : State :=
  { s with storeEngine := .idle, storeTimer := none, saveImage := none, storeSender := none }

/-- An ORDER-RESULT to the sender of the store operation in flight (R122). -/
def State.answerSender (s : State) (sender : Option Slot) (t : OrderTag) (o : OrderOutcome) : State :=
  match sender with
  | some n => s.answer n t o
  | none => s

/-- A SAVE completed, well or not (R200). -/
def State.endSave (s : State) (ok : Bool) : State :=
  State.answerSender
    { s.storeIdle with lastSave := if ok then .ok else .writeFault, storeTorn := false }
    s.storeSender OrderTag.save (if ok then .done else .storeFault)

/-- Whether the store's report ends a SAVE well: the image was written and its read-back matches the save image (R200). -/
def State.saveMatches (s : State) : SaveReport → Bool
  | .written readBack =>
    match s.saveImage with
    | some ts => decide (readBack = imageBytes ts)
    | none => false
  | .failed => false

/-! ## LOAD-STORE (R201) -/

/-- LOAD-STORE at the table manager: the first check of R201 that fails refuses it. -/
def State.takeLoad (s : State) (n : Slot) : State :=
  if s.storeEngine ≠ .idle then s.answer n OrderTag.loadStore .saveBusy
  else if s.staging ≠ [] ∧ s.stagingOwner ≠ some n then s.answer n OrderTag.loadStore .stagingOwned
  else if s.staging ≠ [] then s.answer n OrderTag.loadStore .stagingBusy
  else { s with storeEngine := .loading, storeTimer := some Config.loadTime, storeSender := some n }

/-- A good image launched as NOW for its sender, who receives DONE: applied at once, or held for the running plan with no
further result (R193, R201). -/
def State.launchLoaded (s : State) (es : List Entry) (n : Slot) : State :=
  let s1 : State := { s with staging := es, stagingOwner := some n }
  let s2 := s1.answer n OrderTag.loadStore .done
  if s2.stagingHeld then { s2 with pendingLaunch := some { mode := .now, sender := n, silent := true } }
  else (Work.applyLaunch (Work.start s2) none).finish

/-- A LOAD-STORE completed, with a good image or without (R201). -/
def State.endLoad (s : State) (es : Option (List Entry)) : State :=
  match es, s.storeSender with
  | some entries, some n => s.storeIdle.launchLoaded entries n
  | _, sender => s.storeIdle.answerSender sender OrderTag.loadStore .storeFault

/-! ## FIX-SCHEME and RESTART (R51, R203) -/

/-- FIX-SCHEME at the table manager: the fuse is set, and every door inhibited; once set, nothing changes (R51). -/
def Work.fixScheme (w : Work) : Work :=
  if w.st.schemeFuse then w
  else Work.recomputeInhibit { w with st := { w.st with schemeFuse := true, inhibitSet := BitVec.allOnes 24 } }

/-- RESTART at the table manager: refused while the store engine is busy; else DONE is placed and the restart wait is
entered (R203). -/
def State.takeRestart (s : State) (n : Slot) : State :=
  if s.storeEngine ≠ .idle then s.answer n OrderTag.restart .saveBusy
  else
    { s.answer n OrderTag.restart .done with
      phase := .restartWait (!s.ports.a.insertionFull) (!s.ports.b.insertionFull) }

/-! ## The orders -/

/-- SAVE through the order decoder (R117, R118). -/
def State.orderSave (s : State) (src : Byte) : State := s.takeOrder src OrderTag.save .manage s.takeSave

/-- LOAD-STORE through the order decoder (R117, R118). -/
def State.orderLoadStore (s : State) (src : Byte) : State := s.takeOrder src OrderTag.loadStore .manage s.takeLoad

/-- FIX-SCHEME through the order decoder (R51, R117, R118). -/
def State.orderFixScheme (s : State) (src : Byte) : State :=
  s.takeOrder src OrderTag.fixScheme .manage (fun n =>
    ((Work.fixScheme (Work.start s)).answer n OrderTag.fixScheme .done).finish)

/-- RESTART through the order decoder (R117, R118). -/
def State.orderRestart (s : State) (src : Byte) : State := s.takeOrder src OrderTag.restart .manage s.takeRestart

/-! ## The commands -/

/-- SAVE (R199). -/
def execSave (src : Byte) (s : State) : Host.Outcome State Fault Refusal := .next (s.orderSave src)

/-- LOAD_STORE (R201). -/
def execLoadStore (src : Byte) (s : State) : Host.Outcome State Fault Refusal := .next (s.orderLoadStore src)

/-- FIX_SCHEME (R51). -/
def execFixScheme (src : Byte) (s : State) : Host.Outcome State Fault Refusal := .next (s.orderFixScheme src)

/-- RESTART (R203). -/
def execRestart (src : Byte) (s : State) : Host.Outcome State Fault Refusal := .next (s.orderRestart src)

/-- SAVE_COMPLETE (R200): the store's report; with no SAVE in flight there is nothing to report. -/
def execSaveComplete (report : SaveReport) (s : State) : Host.Outcome State Fault Refusal :=
  .next (if s.storeEngine = .saving then s.endSave (s.saveMatches report) else s)

/-- SAVE_TIMEOUT (R200): 40 tenths without a report. -/
def execSaveTimeout (s : State) : Host.Outcome State Fault Refusal :=
  .next (if s.storeEngine = .saving ∧ s.storeTimer = some 0 then s.endSave false else s)

/-- LOAD_STORE_COMPLETE (R201): the image read; with no LOAD-STORE in flight none is awaited. -/
def execLoadStoreComplete (image : List Byte) (s : State) : Host.Outcome State Fault Refusal :=
  .next (if s.storeEngine = .loading then s.endLoad (s.storeRead image) else s)

/-- LOAD_STORE_TIMEOUT (R201): 10 tenths without an image. -/
def execLoadStoreTimeout (s : State) : Host.Outcome State Fault Refusal :=
  .next (if s.storeEngine = .loading ∧ s.storeTimer = some 0 then s.endLoad none else s)

end Sys2Proof.Machine
end

