-- ==== Sys2Proof/Machine/Arrival.lean ====
section
/-! DEFINITION. Arrival.lean: a frame at a loop port: the check, the fate by its addresses, and the routing of a frame
acted on by its kind; and the end of a sending (R154 to R158, R162, R204, R205). -/

-- One declaration is checked after another, so that no worker threads pile up on a large machine.
set_option Elab.async false

namespace Sys2Proof.Machine

open Sys2Proof

/-! ## Routing (R116, R117, R157, R205) -/

/-- A byte of a payload; `missing` stands for a byte the frame was too short to carry (R206). -/
def payloadByte (payload : List Byte) (k : Nat) (missing : Byte) : Byte := payload[k]?.getD missing

/-- A DOOR-ORDER frame: its form, then the order its action names (R117, R205). -/
def State.frameDoorOrder (s : State) (src : Byte) (payload : List Byte) : State :=
  let tag := OrderTag.doorOrder (payloadByte payload 1 0#8) (payloadByte payload 0 0xFF#8)
  match payload with
  | [door, action] =>
    if action = 1#8 then s.orderClose src door
    else if action = 2#8 then s.orderOpen src door
    else if action = 3#8 then s.orderStop src door
    else if action = 4#8 then s.orderAck src door
    else if action = 5#8 then s.orderInhibit src door
    else if action = 6#8 then s.orderRelease src door
    else s.refuseForm src tag
  | _ => s.refuseForm src tag

/-- A SECTION-ORDER frame: its form, then the order its sub-order names (R117, R205). -/
def State.frameSectionOrder (s : State) (src : Byte) (payload : List Byte) : State :=
  let tag := OrderTag.section_ (payloadByte payload 0 0#8)
  match payload with
  | [sub, bank] =>
    if sub = 1#8 then s.orderSea src
    else if sub = 2#8 then s.orderWorking src
    else if sub = 3#8 then s.orderRerun src
    else if sub = 4#8 then s.orderSuspend src
    else if sub = 5#8 then s.orderResume src
    else if sub = 6#8 then s.orderSelect src bank
    else s.refuseForm src tag
  | _ => s.refuseForm src tag

/-- An AUTH-REQUEST frame: its form, then the request with or without force (R117, R205). -/
def State.frameRequest (s : State) (src : Byte) (payload : List Byte) : State :=
  let tag := OrderTag.other 0x04#8 (payloadByte payload 0 0#8)
  match payload with
  | [forced] =>
    if forced = 0#8 then s.orderRequest src
    else if forced = 1#8 then s.orderRequestForced src
    else s.refuseForm src tag
  | _ => s.refuseForm src tag

/-- A TABLE-WRITE frame: its form, then the write (R117, R205). -/
def State.frameWrite (s : State) (src : Byte) (payload : List Byte) : State :=
  match payload with
  | table :: start :: count :: records =>
    match tableOfCode table.toNat with
    | some t => s.orderWrite src t start count records
    | none => s.refuseForm src OrderTag.tableWrite
  | _ => s.refuseForm src OrderTag.tableWrite

/-- A LAUNCH frame: its form, then the launch its mode names (R117, R205). -/
def State.frameLaunch (s : State) (src : Byte) (payload : List Byte) : State :=
  let tag := OrderTag.other 0x08#8 (payloadByte payload 0 0#8)
  match payload with
  | [mode] =>
    if mode = 1#8 then s.orderLaunchNow src
    else if mode = 2#8 then s.orderLaunchAtCycle src
    else s.refuseForm src tag
  | _ => s.refuseForm src tag

/-- A TABLE-READ frame: its form, then the read (R117, R205). -/
def State.frameRead (s : State) (src : Byte) (payload : List Byte) : State :=
  match payload with
  | [table, start, count] =>
    match tableOfCode table.toNat with
    | some t => s.orderRead src t start count
    | none => s.refuseForm src OrderTag.tableRead
  | _ => s.refuseForm src OrderTag.tableRead

/-- A MANAGE-ORDER frame: its form, then the order its sub-order names (R117, R205). -/
def State.frameManage (s : State) (src : Byte) (payload : List Byte) : State :=
  let tag := OrderTag.manage (payloadByte payload 0 0#8)
  match payload with
  | [sub] =>
    if sub = 1#8 then s.orderSave src
    else if sub = 2#8 then s.orderLoadStore src
    else if sub = 3#8 then s.orderFixScheme src
    else if sub = 4#8 then s.orderRestart src
    else s.refuseForm src tag
  | _ => s.refuseForm src tag

/-- A frame acted on at the order decoder: by its kind; a node kind or an unassigned kind is discarded (R116, R157). -/
def State.actOnOrder (s : State) (f : LoopFrame) : State :=
  if f.kind = 0x02#8 then s.frameDoorOrder f.src f.payload
  else if f.kind = 0x03#8 then s.frameSectionOrder f.src f.payload
  else if f.kind = 0x04#8 then s.frameRequest f.src f.payload
  else if f.kind = 0x05#8 then
    (if f.payload = [] then s.orderAuthRelease f.src else s.refuseForm f.src OrderTag.authRelease)
  else if f.kind = 0x06#8 then
    (if f.payload = [] then s.orderAuthDeny f.src else s.refuseForm f.src OrderTag.authDeny)
  else if f.kind = 0x07#8 then s.frameWrite f.src f.payload
  else if f.kind = 0x08#8 then s.frameLaunch f.src f.payload
  else if f.kind = 0x09#8 then
    (if f.payload = [] then s.orderDiscard f.src else s.refuseForm f.src OrderTag.discard)
  else if f.kind = 0x0A#8 then s.frameRead f.src f.payload
  else if f.kind = 0x0B#8 then s.frameManage f.src f.payload
  else s

/-- A frame taken in on loop `l` (R157): a CYCLE-START goes to its own loop's supervisor, or is discarded when its length
is not 2 (R204); an order is acted on when `l` is the active loop. -/
def State.takeIn (s : State) (l : LoopId) (f : LoopFrame) : State :=
  if s.actsOnFrames then
    if f.kind = 0x01#8 then
      match f.payload with
      | [hi, lo] => s.cycleStart l f.src f.cycle (hi ++ lo)
      | _ => s
    else if l = s.activeLoop then s.actOnOrder f
    else s
  else s

/-! ## Arrival (R154 to R158) -/

/-- A frame that fails its check is dropped and counted, up to 255 (R155). -/
def Port.countBad (p : Port) : Port := { p with badFrames := min Config.maxBadFrames (p.badFrames + 1) }

/-- A frame joins the forward buffer of its loop's port (R159). -/
def State.forward (s : State) (l : LoopId) (bytes : List Byte) : State := s.setPort l ((s.ports.port l).passOn bytes)

/-- A broadcast frame, passed on and taken in; log entry 6: which comes first is free (R156, R162). -/
def State.takeBroadcast (s : State) (l : LoopId) (bytes : List Byte) (f : LoopFrame) : State :=
  let s1 : State := { s with choices := s.choices + 1 }
  if Config.actsFirst s.choices then (s1.takeIn l f).forward l bytes else (s1.forward l bytes).takeIn l f

/-- The fate of a good frame: the first row of R156 that holds; under an address fault every good frame is passed on
(R154). -/
def State.takeGood (s : State) (l : LoopId) (bytes : List Byte) (f : LoopFrame) : State :=
  match s.ownAddress with
  | none => s.forward l bytes
  | some own =>
    if f.src.toNat = own then s
    else if f.dest.toNat = own then s.takeIn l f
    else if f.dest.toNat = Config.broadcast then s.takeBroadcast l bytes f
    else s.forward l bytes

/-- A frame at a loop port; before the straps are read it is discarded unchecked (R155, R156, R158). -/
def State.arrive (s : State) (l : LoopId) (bytes : List Byte) : State :=
  if s.phase = .inReset then s
  else
    match frameOfBytes bytes with
    | none => s.setPort l (s.ports.port l).countBad
    | some f => s.takeGood l bytes f

/-! ## The commands -/

/-- LOOP_FRAME_ARRIVAL (R155 to R159). -/
def execLoopFrameArrival (l : LoopId) (bytes : List Byte) (s : State) : Host.Outcome State Fault Refusal :=
  .next (s.arrive l bytes)

/-- TRANSMIT_END (R162). -/
def execTransmitEnd (l : LoopId) (s : State) : Host.Outcome State Fault Refusal :=
  .next (s.setPort l (s.ports.port l).endSending)

end Sys2Proof.Machine
end

