-- ==== Sys2Proof/Machine/Dispatch.lean ====
section
/-! DEFINITION. Dispatch.lean: each command's meaning. -/

namespace Sys2Proof.Machine

open Sys2Proof

def exec (i : Instr) (s : State) : Host.Outcome State Fault Refusal :=
  match i with
  | .powerUp straps => Sys2Proof.Machine.execPowerUp straps s
  | .resetLineAssert => Sys2Proof.Machine.execResetLineAssert s
  | .resetLineRelease straps => Sys2Proof.Machine.execResetLineRelease straps s
  | .startupLoadComplete image => Sys2Proof.Machine.execStartupLoadComplete image s
  | .startupLoadTimeout => Sys2Proof.Machine.execStartupLoadTimeout s
  | .startUpEnd => Sys2Proof.Machine.execStartUpEnd s
  | .loopFrameArrival l bytes => Sys2Proof.Machine.execLoopFrameArrival l bytes s
  | .cycleStart l src cycle heel => Sys2Proof.Machine.execCycleStart l src cycle heel s
  | .windowExpiry l => Sys2Proof.Machine.execWindowExpiry l s
  | .transmitEnd l => Sys2Proof.Machine.execTransmitEnd l s
  | .linePoll line => Sys2Proof.Machine.execLinePoll line s
  | .doorReportArrival n bytes => Sys2Proof.Machine.execDoorReportArrival n bytes s
  | .groupReportArrival g bytes => Sys2Proof.Machine.execGroupReportArrival g bytes s
  | .lineReplyTimeout line => Sys2Proof.Machine.execLineReplyTimeout line s
  | .warningExpiry doors => Sys2Proof.Machine.execWarningExpiry doors s
  | .recloseExpiry doors => Sys2Proof.Machine.execRecloseExpiry doors s
  | .deadlineExpiry doors => Sys2Proof.Machine.execDeadlineExpiry doors s
  | .beatTimerExpiry => Sys2Proof.Machine.execBeatTimerExpiry s
  | .compensationExpiry g => Sys2Proof.Machine.execCompensationExpiry g s
  | .stepTimerExpiry => Sys2Proof.Machine.execStepTimerExpiry s
  | .transferTimerExpiry => Sys2Proof.Machine.execTransferTimerExpiry s
  | .saveComplete report => Sys2Proof.Machine.execSaveComplete report s
  | .saveTimeout => Sys2Proof.Machine.execSaveTimeout s
  | .loadStoreComplete image => Sys2Proof.Machine.execLoadStoreComplete image s
  | .loadStoreTimeout => Sys2Proof.Machine.execLoadStoreTimeout s
  | .restartReset straps => Sys2Proof.Machine.execRestartReset straps s
  | .doorOrderClose src door => Sys2Proof.Machine.execDoorOrderClose src door s
  | .doorOrderOpen src door => Sys2Proof.Machine.execDoorOrderOpen src door s
  | .doorOrderStop src door => Sys2Proof.Machine.execDoorOrderStop src door s
  | .doorOrderAck src door => Sys2Proof.Machine.execDoorOrderAck src door s
  | .doorOrderInhibit src door => Sys2Proof.Machine.execDoorOrderInhibit src door s
  | .doorOrderRelease src door => Sys2Proof.Machine.execDoorOrderRelease src door s
  | .setModeSea src => Sys2Proof.Machine.execSetModeSea src s
  | .setModeWorking src => Sys2Proof.Machine.execSetModeWorking src s
  | .rerun src => Sys2Proof.Machine.execRerun src s
  | .suspend src => Sys2Proof.Machine.execSuspend src s
  | .resume src => Sys2Proof.Machine.execResume src s
  | .selectPlan src bank => Sys2Proof.Machine.execSelectPlan src bank s
  | .authRequest src => Sys2Proof.Machine.execAuthRequest src s
  | .authRequestForced src => Sys2Proof.Machine.execAuthRequestForced src s
  | .authRelease src => Sys2Proof.Machine.execAuthRelease src s
  | .authDeny src => Sys2Proof.Machine.execAuthDeny src s
  | .tableWrite src table start count records => Sys2Proof.Machine.execTableWrite src table start count records s
  | .launchNow src => Sys2Proof.Machine.execLaunchNow src s
  | .launchAtCycle src => Sys2Proof.Machine.execLaunchAtCycle src s
  | .discard src => Sys2Proof.Machine.execDiscard src s
  | .tableRead src table start count => Sys2Proof.Machine.execTableRead src table start count s
  | .save src => Sys2Proof.Machine.execSave src s
  | .loadStore src => Sys2Proof.Machine.execLoadStore src s
  | .fixScheme src => Sys2Proof.Machine.execFixScheme src s
  | .restart src => Sys2Proof.Machine.execRestart src s

end Sys2Proof.Machine
end

