-- ==== Sys2Proof/Machine/Encode.lean ====
section
/-! DEFINITION. Encode.lean: the station frames that carry the orders and the cycle starts (R204, R205), and what each order
needs of its sender and echoes in its results (R118, R206), written from the tables of those rules. -/

-- One declaration is checked after another, so that no worker threads pile up on a large machine.
set_option Elab.async false

namespace Sys2Proof.Machine

open Sys2Proof

/-- The kind and the payload of the frame that carries an order or a cycle start (R204, R205); none for the commands that
no frame carries. -/
def carriedAs : Instr → Option (Nat × List Byte)
  | .cycleStart _ _ _ heel => some (0x01, [heel.extractLsb' 8 8, heel.extractLsb' 0 8])
  | .doorOrderClose _ door => some (0x02, [door, 1#8])
  | .doorOrderOpen _ door => some (0x02, [door, 2#8])
  | .doorOrderStop _ door => some (0x02, [door, 3#8])
  | .doorOrderAck _ door => some (0x02, [door, 4#8])
  | .doorOrderInhibit _ door => some (0x02, [door, 5#8])
  | .doorOrderRelease _ door => some (0x02, [door, 6#8])
  | .setModeSea _ => some (0x03, [1#8, 0#8])
  | .setModeWorking _ => some (0x03, [2#8, 0#8])
  | .rerun _ => some (0x03, [3#8, 0#8])
  | .suspend _ => some (0x03, [4#8, 0#8])
  | .resume _ => some (0x03, [5#8, 0#8])
  | .selectPlan _ bank => some (0x03, [6#8, bank])
  | .authRequest _ => some (0x04, [0#8])
  | .authRequestForced _ => some (0x04, [1#8])
  | .authRelease _ => some (0x05, [])
  | .authDeny _ => some (0x06, [])
  | .tableWrite _ t start count records => some (0x07, byteOf (tableCode t) :: start :: count :: records)
  | .launchNow _ => some (0x08, [1#8])
  | .launchAtCycle _ => some (0x08, [2#8])
  | .discard _ => some (0x09, [])
  | .tableRead _ t start count => some (0x0A, [byteOf (tableCode t), start, count])
  | .save _ => some (0x0B, [1#8])
  | .loadStore _ => some (0x0B, [2#8])
  | .fixScheme _ => some (0x0B, [3#8])
  | .restart _ => some (0x0B, [4#8])
  | .powerUp _ => none
  | .resetLineAssert => none
  | .resetLineRelease _ => none
  | .startupLoadComplete _ => none
  | .startupLoadTimeout => none
  | .startUpEnd => none
  | .loopFrameArrival _ _ => none
  | .windowExpiry _ => none
  | .transmitEnd _ => none
  | .linePoll _ => none
  | .doorReportArrival _ _ => none
  | .groupReportArrival _ _ => none
  | .lineReplyTimeout _ => none
  | .warningExpiry _ => none
  | .recloseExpiry _ => none
  | .deadlineExpiry _ => none
  | .beatTimerExpiry => none
  | .compensationExpiry _ => none
  | .stepTimerExpiry => none
  | .transferTimerExpiry => none
  | .saveComplete _ => none
  | .saveTimeout => none
  | .loadStoreComplete _ => none
  | .loadStoreTimeout => none
  | .restartReset _ => none

/-- What an order is to the order decoder: its sender's address, what its results echo, and what it needs of its sender
(R118, R205, R206). -/
structure OrderHead where
  src : Byte
  tag : OrderTag
  need : Need
  deriving DecidableEq, Repr

/-- The head of an order; none for a command that is no order (R118). -/
def orderHead : Instr → Option OrderHead
  | .doorOrderClose src door => some { src := src, tag := OrderTag.doorOrder 1#8 door, need := .enrolled }
  | .doorOrderOpen src door => some { src := src, tag := OrderTag.doorOrder 2#8 door, need := .authority }
  | .doorOrderStop src door => some { src := src, tag := OrderTag.doorOrder 3#8 door, need := .authority }
  | .doorOrderAck src door => some { src := src, tag := OrderTag.doorOrder 4#8 door, need := .command }
  | .doorOrderInhibit src door => some { src := src, tag := OrderTag.doorOrder 5#8 door, need := .authority }
  | .doorOrderRelease src door => some { src := src, tag := OrderTag.doorOrder 6#8 door, need := .authority }
  | .setModeSea src => some { src := src, tag := OrderTag.section_ 1#8, need := .enrolled }
  | .setModeWorking src => some { src := src, tag := OrderTag.section_ 2#8, need := .authority }
  | .rerun src => some { src := src, tag := OrderTag.section_ 3#8, need := .enrolled }
  | .suspend src => some { src := src, tag := OrderTag.section_ 4#8, need := .authority }
  | .resume src => some { src := src, tag := OrderTag.section_ 5#8, need := .authority }
  | .selectPlan src _ => some { src := src, tag := OrderTag.section_ 6#8, need := .authority }
  | .authRequest src => some { src := src, tag := OrderTag.other 0x04#8 0#8, need := .command }
  | .authRequestForced src => some { src := src, tag := OrderTag.other 0x04#8 1#8, need := .command }
  | .authRelease src => some { src := src, tag := OrderTag.other 0x05#8 0#8, need := .enrolled }
  | .authDeny src => some { src := src, tag := OrderTag.other 0x06#8 0#8, need := .enrolled }
  | .tableWrite src _ _ _ _ => some { src := src, tag := OrderTag.other 0x07#8 0#8, need := .manage }
  | .launchNow src => some { src := src, tag := OrderTag.other 0x08#8 1#8, need := .manage }
  | .launchAtCycle src => some { src := src, tag := OrderTag.other 0x08#8 2#8, need := .manage }
  | .discard src => some { src := src, tag := OrderTag.other 0x09#8 0#8, need := .manage }
  | .tableRead src _ _ _ => some { src := src, tag := OrderTag.other 0x0A#8 0#8, need := .manage }
  | .save src => some { src := src, tag := OrderTag.other 0x0B#8 1#8, need := .manage }
  | .loadStore src => some { src := src, tag := OrderTag.other 0x0B#8 2#8, need := .manage }
  | .fixScheme src => some { src := src, tag := OrderTag.other 0x0B#8 3#8, need := .manage }
  | .restart src => some { src := src, tag := OrderTag.other 0x0B#8 4#8, need := .manage }
  | .powerUp _ => none
  | .resetLineAssert => none
  | .resetLineRelease _ => none
  | .startupLoadComplete _ => none
  | .startupLoadTimeout => none
  | .startUpEnd => none
  | .loopFrameArrival _ _ => none
  | .cycleStart _ _ _ _ => none
  | .windowExpiry _ => none
  | .transmitEnd _ => none
  | .linePoll _ => none
  | .doorReportArrival _ _ => none
  | .groupReportArrival _ _ => none
  | .lineReplyTimeout _ => none
  | .warningExpiry _ => none
  | .recloseExpiry _ => none
  | .deadlineExpiry _ => none
  | .beatTimerExpiry => none
  | .compensationExpiry _ => none
  | .stepTimerExpiry => none
  | .transferTimerExpiry => none
  | .saveComplete _ => none
  | .saveTimeout => none
  | .loadStoreComplete _ => none
  | .loadStoreTimeout => none
  | .restartReset _ => none

/-- The source address in the frame that carries a command. -/
def senderOf : Instr → Byte
  | .cycleStart _ src _ _ => src
  | c => ((orderHead c).map OrderHead.src).getD 0#8

/-- The bytes of the frame that carries a command to the node of address `own` (R204): a CYCLE-START with its own cycle
number, an order with the station's. -/
def frameOf (own : Nat) (stationCycle : Byte) (c : Instr) : Option (List Byte) :=
  let cycle := match c with
    | .cycleStart _ _ cycle _ => cycle
    | _ => stationCycle
  (carriedAs c).map (fun k => frameBytes own (senderOf c).toNat k.1 cycle.toNat k.2)

end Sys2Proof.Machine
end

