-- ==== Sys2Proof/Safety.lean ====
section
/-! DEFINITION. Safety.lean: what every reachable state of the node satisfies, in the terms the claims use: the limits of
the loop ports, the staging area, the authority record, the contact state, the ranges of travel timing, and the balance of
the held loads with the queues. -/

-- One declaration is checked after another, so that no worker threads pile up on a large machine.
set_option Elab.async false

namespace Sys2Proof.Machine

open Sys2Proof

/-! ## Loop ports (R155, R159, R161, R162) -/

/-- A port within its limits: at most 3 frames to pass on, at most 4 of its own of which at most one is a
SECTION-REPORT, a fairness count of at most 8 and a bad-frame count of at most 255. -/
abbrev Port.WithinLimits (p : Port) : Prop :=
  p.forward.length ≤ 3 ∧ p.insertion.length ≤ 4 ∧ (p.insertion.filter NodeFrame.isReport).length ≤ 1
    ∧ p.fairness ≤ 8 ∧ p.badFrames ≤ 255

/-- Both ports within their limits. -/
abbrev State.PortsWithinLimits (s : State) : Prop := s.ports.a.WithinLimits ∧ s.ports.b.WithinLimits

/-! ## The staging area (R187, R188, R190) -/

/-- The staging area as R187 to R190 leave it: at most 96 records; an owner exactly while it holds records; a launch
pending only while it does; the cursors at 0 while it is empty, and never past their tables. -/
abbrev State.StagingSound (s : State) : Prop :=
  s.staging.length ≤ 96
    ∧ (s.staging = [] → s.stagingOwner = none ∧ s.pendingLaunch = none ∧ s.cursors = Cursors.zero)
    ∧ (s.staging ≠ [] → s.stagingOwner ≠ none)
    ∧ s.cursors.door ≤ 24 ∧ s.cursors.group ≤ 4 ∧ s.cursors.plan0 ≤ 17 ∧ s.cursors.plan1 ≤ 17
    ∧ s.cursors.station ≤ 8 ∧ s.cursors.settings ≤ 1

/-! ## The authority record (R128, R129) -/

/-- Whether the node is in its start-up, or in reset before it. -/
def State.inStartUp (s : State) : Bool := !s.handsOn

/-- The authority record as R128 and R129 give it: the holder is NONE or an enrolled station with command right; a
pending requester is one too, is not the holder, and pends only while there is a holder; no one holds or pends in
start-up. -/
abbrev State.AuthoritySound (s : State) : Prop :=
  (∀ h : Slot, s.holder = some h → hasCommand s.tables h = true)
    ∧ (∀ r : Slot, s.transfer.map Transfer.requester = some r →
        hasCommand s.tables r = true ∧ s.holder ≠ none ∧ s.holder ≠ some r)
    ∧ (s.inStartUp = true → s.holder = none ∧ s.transfer = none)

/-! ## The contact state (R163, R169) -/

/-- A supervisor's counts: the recovery count is 0 or 1, and 0 unless the loop is LOST (R163). -/
abbrev Supervisor.CountsSound (p : Supervisor) : Prop := p.recovery ≤ 1 ∧ (p.loop ≠ .lost → p.recovery = 0)

/-- Whenever the contact state is CONNECTED the active loop is GOOD, it is ISOLATED only while both loops are LOST, and
in start-up it is WAITING with no window running (R158, R169). -/
abbrev State.ContactSound (s : State) : Prop :=
  (s.contact = .connected → (s.supervisor s.activeLoop).loop = .good)
    ∧ (s.contact = .isolated → s.ports.a.sup.loop = .lost ∧ s.ports.b.sup.loop = .lost)
    ∧ (s.inStartUp = true →
        s.contact = .waiting ∧ s.ports.a.sup.window = none ∧ s.ports.b.sup.window = none)
    ∧ s.ports.a.sup.CountsSound ∧ s.ports.b.sup.CountsSound

/-! ## Travel timing (R74, R76, R79, R84, R86) -/

/-- A group's held temperature and Tf within their ranges. -/
abbrev GroupRuntime.InRange (g : GroupRuntime) : Prop :=
  (∀ t : Int, g.heldTemp = some t → -40 ≤ t ∧ t ≤ 100) ∧ 256 ≤ g.tf ∧ g.tf ≤ 1023

/-- A door's deadline and captured travel times within their ranges. -/
abbrev DoorRuntime.InRange (d : DoorRuntime) : Prop :=
  d.deadline.value ≤ 4095 ∧ d.lastClose ≤ 4095 ∧ d.lastOpen ≤ 4095

/-- The held heel and every figure of travel timing within its range. -/
abbrev State.TravelInRange (s : State) : Prop :=
  (-300 ≤ s.heldHeel ∧ s.heldHeel ≤ 300) ∧ (∀ g : GroupIx, (s.groups[g]).InRange) ∧ (∀ i : DoorIx, (s.doors[i]).InRange)

/-! ## Loads and queues (R58, R66) -/

/-- The load units a door holds against group `g`. -/
def DoorRuntime.unitsOn (d : DoorRuntime) (g : GroupIx) : Nat :=
  match d.heldLoad with
  | some (h, units) => if h = g then units else 0
  | none => 0

/-- The load units all doors hold against group `g`. -/
def State.unitsHeld (s : State) (g : GroupIx) : Nat := (allDoors.map (fun i => (s.doors[i]).unitsOn g)).sum

/-- Whether door `i` waits for group `g`: it is QUEUED and its record names the group. -/
def State.waitsFor (s : State) (i : DoorIx) (g : GroupIx) : Bool :=
  s.doors[i].state = .queued && s.tables.doors[i].group = g

/-- A group's queue against the doors: each claim is that of a QUEUED door of the group and carries the door's queued
direction; each such door has exactly one claim; closing claims stand before opening ones (R58, R59). -/
abbrev State.QueueSound (s : State) (g : GroupIx) : Prop :=
  (∀ c ∈ s.groups[g].queue, s.waitsFor c.door g = true ∧ c.dir = s.doors[c.door].queuedDir)
    ∧ (∀ i : DoorIx, s.waitsFor i g = true → i ∈ s.groups[g].queue.map Claim.door)
    ∧ (s.groups[g].queue.map Claim.door).Nodup
    ∧ s.groups[g].queue.Pairwise (fun a b => a.dir = .open → b.dir = .open)

/-- A held load belongs to a door that moves, or to an UNKNOWN door whose motion was cut off by its line (R23, R66). -/
abbrev DoorRuntime.LoadSound (d : DoorRuntime) : Prop :=
  (d.state = .closing → d.heldLoad ≠ none) ∧ (d.state = .opening → d.heldLoad ≠ none)
    ∧ (d.heldLoad ≠ none → d.state = .closing ∨ d.state = .opening ∨ d.state = .unknown)

/-- In every group the in-use is the sum of the load units of the doors' held loads against it, and every queue matches
the QUEUED doors; an absent door is ABSENT; in start-up nothing is queued, no load is held and every door is UNKNOWN or
ABSENT (R2, R34, R58, R66, R73). -/
abbrev State.LoadsBalance (s : State) : Prop :=
  (∀ g : GroupIx, s.groups[g].inUse = s.unitsHeld g) ∧ (∀ g : GroupIx, s.QueueSound g)
    ∧ (∀ i : DoorIx, (s.doors[i]).LoadSound)
    ∧ (∀ i : DoorIx, s.tables.doors[i].present = false → s.doors[i].state = .absent)
    ∧ (s.inStartUp = true → (∀ g : GroupIx, s.groups[g].queue = [] ∧ s.groups[g].inUse = 0)
        ∧ ∀ i : DoorIx, (s.doors[i].state = .unknown ∨ s.doors[i].state = .absent) ∧ s.doors[i].heldLoad = none)

/-! ## Openings at sea (R32) -/

/-- In SEA mode no door is OPENING or QUEUED(open) unless it has passage active or sea-open held. -/
abbrev State.SeaOpeningsHeld (s : State) : Prop :=
  s.mode = .sea → ∀ i : DoorIx, (s.doors[i]).isOpening = true →
    (s.doors[i]).passage = true ∨ (s.doors[i]).seaOpenHeld = true

/-! ## Terms of the claims about single commands -/

/-- A state with its doors, groups and plan engine blanked. -/
def State.outside (s : State) : State :=
  { s with doors := State.reset.doors, groups := State.reset.groups, plan := PlanEngine.reset }

/-- A state with, besides, everything blanked that a launch applied at a run's end may write. -/
def State.outsideLaunch (s : State) : State :=
  { s.outside with
    tables := Tables.empty, doorLines := State.reset.doorLines, groupLines := State.reset.groupLines, holder := none
    transfer := none, ports := State.reset.ports, responseLost := false, staging := [], stagingOwner := none
    cursors := Cursors.zero, pendingLaunch := none }

/-- The node acts on frames, and the station at address `src` has slot `n` and standing (R115, R116). -/
abbrev State.Hears (s : State) (src : Byte) (n : Slot) : Prop :=
  s.actsOnFrames = true ∧ slotOf src = some n ∧ hasStanding s.tables n = true

/-- A state with one door's runtime record replaced. -/
def State.setDoor (s : State) (i : DoorIx) (d : DoorRuntime) : State := { s with doors := upd s.doors i d }

/-- A state with one group's runtime record replaced. -/
def State.setGroup (s : State) (g : GroupIx) (r : GroupRuntime) : State := { s with groups := upd s.groups g r }

/-- No plan step runs, so no door's change reaches a step (R103). -/
abbrev State.NoStepRuns (s : State) : Prop := ∀ k : StepIx, s.plan.engine ≠ .running k

/-- A state in which a door's held load no longer counts against its group (R67). -/
def State.unload (s : State) (d : DoorRuntime) : State :=
  match d.heldLoad with
  | some (g, units) => s.setGroup g { s.groups[g] with inUse := s.groups[g].inUse - units }
  | none => s

/-- No claim waits in the queue of the group that a door's held load counts against. -/
abbrev State.NobodyWaitsFor (s : State) (d : DoorRuntime) : Prop :=
  ∀ (g : GroupIx) (units : Nat), d.heldLoad = some (g, units) → s.groups[g].queue = []

/-- A state in which door `i`'s claim has left the queue of its group, the claims behind it closing up (R61). -/
def State.unqueue (s : State) (i : DoorIx) : State :=
  let g := s.tables.doors[i].group
  s.setGroup g { s.groups[g] with queue := s.groups[g].queue.filter (fun c => c.door ≠ i) }

/-- Door `i`'s claim leaves its queue without an admission behind it: it is not the head, or the claim that becomes the head
does not fit (R61, R62, R64). -/
abbrev State.NobodyFollows (s : State) (i : DoorIx) : Prop :=
  let g := s.tables.doors[i].group
  s.groups[g].queue.head?.map Claim.door = some i →
    ∀ c : Claim, (s.groups[g].queue.filter (fun c => c.door ≠ i)).head? = some c → s.fits g c = false

/-- A state in which door `i` has given back what it has of a group: its held load if it moves, its claim if it is queued
(R9). -/
def State.giveBack (s : State) (i : DoorIx) : State :=
  let d := s.doors[i]
  if d.state = .closing ∨ d.state = .opening then s.unload d else if d.state = .queued then s.unqueue i else s

/-- What door `i` gives back admits no other door. -/
abbrev State.NobodyGains (s : State) (i : DoorIx) : Prop :=
  (s.doors[i].state = .closing ∨ s.doors[i].state = .opening → s.NobodyWaitsFor s.doors[i])
    ∧ (s.doors[i].state = .queued → s.NobodyFollows i)

/-- The plan engine `p` after a run start on the active bank of `s`: the result cleared, the bank recorded, an invalid header
ends the run DONE with LINK-FAULT, an invalid first step ends it DONE with LINK-FAULT in a strict bank, and a valid one is
entered, with at most 16 visits (R98 to R100, R106). -/
abbrev State.RunStarts (s : State) (p : PlanEngine) : Prop :=
  let b := s.tables.settings.activeBank
  let bank := s.tables.banks[b]
  let ended : Bool → PlanEngine := fun linkFault =>
    { engine := .done, runningBank := some b, currentStep := none, stepTimer := .stopped, visits := 0
      marks := Vector.replicate 24 none
      result := { notClosed := false, overrun := false, linkFault := linkFault, aborted := false, stepsVisited := 0,
                  doorsNotClosed := 0 } }
  (bank.header.valid = false → p = ended true)
    ∧ (∀ k : StepIx, bank.header.valid = true → bank.header.firstStep = k.val → bank.steps[k].valid = false →
        p = ended bank.header.strict)
    ∧ (∀ k : StepIx, bank.header.valid = true → bank.header.firstStep = k.val → bank.steps[k].valid = true →
        p.runningBank = some b ∧ p.result.stepsVisited = p.visits ∧ 1 ≤ p.visits ∧ p.visits ≤ 16)

/-- A state in which claim `c` has been admitted from the head of group `g`'s queue, `rest` waiting behind it: the load added
and recorded, the door moving, with its E, its deadline and its travel timer started (R63, R83, R84). -/
def State.admitted (s : State) (g : GroupIx) (c : Claim) (rest : List Claim) : State :=
  let r := s.tables.doors[c.door]
  let n := match c.dir with
    | .close => r.closeNominal
    | .open => r.openNominal
  let e := (n * s.groups[g].tf * motionFactor r s.tables.groups[g] c.dir s.heldHeel + 65535) / 65536
  (s.setDoor c.door
    { s.doors[c.door] with
      state := match c.dir with
        | .close => .closing
        | .open => .opening
      heldLoad := some (g, r.load)
      expected := e
      deadline := { running := true, value := min 4095 (e + r.margin) }
      travel := { running := true, value := 0 }
      changed := true }).setGroup g
    { s.groups[g] with queue := rest, inUse := s.groups[g].inUse + r.load }

/-- A re-examination of group `g`'s queue in state `s` admits `c`, the claim of a QUEUED door at its head, and no other: the
claim behind it does not fit (R62 to R65). -/
abbrev State.AdmitsOne (s : State) (g : GroupIx) (c : Claim) (rest : List Claim) : Prop :=
  s.groups[g].queue = c :: rest ∧ s.doors[c.door].state = .queued ∧ s.fits g c = true
    ∧ ∀ next : Claim, rest.head? = some next → (s.admitted g c rest).fits g next = false

/-- The plan engine with the mark of door `i` set: a settlement other than closed is counted (R102, R103). -/
def PlanEngine.settled (p : PlanEngine) (i : DoorIx) (m : Mark) : PlanEngine :=
  { p with
    marks := upd p.marks i (some m)
    result :=
      if m = .notClosed then { p.result with notClosed := true, doorsNotClosed := p.result.doorsNotClosed + 1 }
      else p.result }

/-! ### Step entries (R99 to R102) -/

/-- The mark R101 sets for door `i` at the entry of a step with this wait: the first row that holds; none leaves the door
unsettled. -/
def State.entryMark (s : State) (wait : WaitKind) (i : DoorIx) : Option Mark :=
  let d := s.doors[i]
  if d.state = .absent then some .notClosed
  else if d.state = .closed then some .closed
  else if d.state = .fault ∨ d.state = .unknown ∨ d.manual = true then some .notClosed
  else if d.passage = true then none
  else if d.state = .closing ∧ wait = .admitted then some .closed
  else none

/-- An entry of step `r` in state `s` leaves a door unsettled and raises no claim: every door it orders closed stands or waits
to reclose, with a pre-warning time (R11, R101). -/
abbrev State.EntryWaits (s : State) (r : PlanStep) : Prop :=
  (∃ i : DoorIx, inSet r.doors i = true ∧ s.entryMark r.wait i = none)
    ∧ ∀ i : DoorIx, inSet r.doors i = true → s.entryMark r.wait i = none → s.doors[i].passage = false →
        s.doors[i].state ≠ .opening ∧ (s.doors[i].state = .queued → s.doors[i].queuedDir = .close)
        ∧ (s.doors[i].state = .opened ∨ s.doors[i].state = .stopped ∨ s.doors[i].state = .recloseWait →
            0 < s.preWarningTime i)

/-- The state after such an entry of step `k`, whose record is `r`: the counts raised, the engine RUNNING, the marks set and
counted, the step timer loaded, and each door that stands or waits to reclose in WARNING with origin PLAN (R11, R100 to
R102). -/
def State.stepEntered (s : State) (k : StepIx) (r : PlanStep) : State :=
  let ordered : DoorIx → Bool := fun i =>
    inSet r.doors i && (s.entryMark r.wait i).isNone && !s.doors[i].passage
      && (s.doors[i].state = .opened || s.doors[i].state = .stopped || s.doors[i].state = .recloseWait)
  let counted := (allDoors.filter (fun i => inSet r.doors i && decide (s.entryMark r.wait i = some .notClosed))).length
  { s with
    plan := { s.plan with
      engine := .running k, currentStep := some k, visits := s.plan.visits + 1
      stepTimer := if r.timeout = 0 then .stopped else .running r.timeout
      marks := Vector.ofFn (fun i : DoorIx =>
        if inSet r.doors i then some ((s.entryMark r.wait i).getD .unsettled) else none)
      result := { s.plan.result with
        stepsVisited := s.plan.result.stepsVisited + 1
        notClosed := s.plan.result.notClosed || decide (0 < counted)
        doorsNotClosed := s.plan.result.doorsNotClosed + counted } }
    doors := Vector.ofFn (fun i : DoorIx =>
      if ordered i then
        { s.doors[i] with
          state := .warning, timer := some (s.preWarningTime i), origin := .plan, seaOpenHeld := false, changed := true }
      else s.doors[i]) }

/-- The active plan bank (R93). -/
def State.activeBank (s : State) : PlanBank := s.tables.banks[s.tables.settings.activeBank]

/-- A run start of state `s` enters the valid first step `k` of a valid active bank, raises no claim there, and every reclose
delay is above 0 (R30, R99). -/
abbrev State.EntersFirst (s : State) (k : StepIx) : Prop :=
  s.activeBank.header.valid = true ∧ s.activeBank.header.firstStep = k.val ∧ s.activeBank.steps[k].valid = true
    ∧ s.EntryWaits s.activeBank.steps[k] ∧ ∀ i : DoorIx, 0 < s.recloseTime i

/-- The state after such a run start: the bank recorded, the result cleared, the step entered, and then the sea reclose rule
on every door, which takes the OPEN and STOPPED doors without passage, sea-open held or manual flag that no valid step of the
bank names (R30, R96, R97, R99 to R102). -/
def State.runEntered (s : State) (k : StepIx) : State :=
  let steps := s.activeBank.steps
  let cleared : PlanEngine :=
    { s.plan with
      runningBank := some s.tables.settings.activeBank, currentStep := none, visits := 0
      result := { notClosed := false, overrun := false, linkFault := false, aborted := false, stepsVisited := 0,
                  doorsNotClosed := 0 } }
  let t := State.stepEntered { s with plan := cleared } k steps[k]
  let recloses : DoorIx → Bool := fun i =>
    (t.doors[i].state = .opened || t.doors[i].state = .stopped)
      && !t.doors[i].passage && !t.doors[i].seaOpenHeld && !t.doors[i].manual
      && !allSteps.any (fun j => steps[j].valid && inSet steps[j].doors i)
  { t with
    doors := Vector.ofFn (fun i : DoorIx =>
      if recloses i then
        { t.doors[i] with
          state := .recloseWait, timer := some (s.recloseTime i), origin := .reclose, changed := true }
      else t.doors[i]) }

/-- A state in SEA mode, every passage and sea-open held flag cleared (R124, steps 2 and 3). -/
def State.toSea (s : State) : State :=
  { s with
    mode := .sea
    doors := Vector.ofFn (fun i : DoorIx =>
      { s.doors[i] with
        passage := false, seaOpenHeld := false
        changed := s.doors[i].changed || s.doors[i].passage || s.doors[i].seaOpenHeld }) }

/-- State `t` follows from `u`, in which step `k` of bank `b` has completed or overrun, by its link: an end, or the entry of
the next step (R100 to R102, R105, R106). -/
abbrev State.Links (u : State) (b : BankIx) (k : StepIx) (t : State) : Prop :=
  let steps := u.tables.banks[b].steps
  let ended : Bool → PlanEngine := fun linkFault =>
    { u.plan with
      engine := .done, stepTimer := .stopped, marks := Vector.replicate 24 none
      result := { u.plan.result with linkFault := u.plan.result.linkFault || linkFault } }
  (steps[k].next = none → t.plan = ended false)
    ∧ (∀ j : StepIx, steps[k].next = some j → steps[j].valid = false → t.plan = ended u.tables.banks[b].header.strict)
    ∧ (∀ j : StepIx, steps[k].next = some j → steps[j].valid = true → 16 ≤ u.plan.visits → t.plan = ended true)
    ∧ (∀ j : StepIx, steps[k].next = some j → steps[j].valid = true → u.plan.visits < 16 →
        u.plan.visits < t.plan.visits ∧ t.plan.visits ≤ 16
        ∧ (u.EntryWaits steps[j] → t = u.stepEntered j steps[j]))

/-- Command `c` settles door `i` of the running step with mark `m`, its effect being `u` but for the plan: while another door
of the step is unsettled only the mark and the count follow; else the step completes and its link is followed (R103). -/
abbrev State.SettlesBy (s : State) (c : Instr) (u : State) (i : DoorIx) (m : Mark) : Prop :=
  ∀ k : StepIx, s.plan.engine = .running k → s.plan.marks[i] = some .unsettled →
    ((∃ j : DoorIx, j ≠ i ∧ s.plan.marks[j] = some .unsettled) →
      exec c s = .next { u with plan := s.plan.settled i m })
    ∧ ((∀ j : DoorIx, j ≠ i → s.plan.marks[j] ≠ some .unsettled) → s.pendingLaunch = none →
      ∃ t : State, exec c s = .next t ∧ t.outside = u.outside
        ∧ ∀ b : BankIx, s.plan.runningBank = some b → State.Links { u with plan := s.plan.settled i m } b k t)

/-- No running step waits for door `i`, so that its change settles no mark (R103). -/
abbrev State.Unawaited (s : State) (i : DoorIx) : Prop := s.NoStepRuns ∨ s.plan.marks[i] ≠ some .unsettled

/-- The authority record and the insertion queues of `t`, after a launch of `tables` over `s` whose last result `done` has
placed. When the station table changed, a pending requester without command right is REMOVED, and a holder without it gives
way to NONE or to the requester that remains, who is GRANTED the authority (R134). -/
abbrev State.AuthorityChecked (s done : State) (tables : Tables) (t : State) : Prop :=
  let keeps : Slot → Bool := fun m => decide (tables.stations = s.tables.stations) || hasCommand tables m
  let request : OrderTag := { kind := 0x04#8, action := 0#8, door := 0xFF#8 }
  (s.transfer = none →
      t.transfer = none ∧ t.holder = s.holder.filter keeps
      ∧ t.ports = done.ports ∧ t.responseLost = done.responseLost)
    ∧ (∀ q : Transfer, s.transfer = some q → keeps q.requester = false →
        t.transfer = none ∧ t.holder = s.holder.filter keeps
        ∧ t.ports = (done.answer q.requester request .removed).ports
        ∧ t.responseLost = (done.answer q.requester request .removed).responseLost)
    ∧ (∀ q : Transfer, s.transfer = some q → keeps q.requester = true → s.holder.filter keeps = s.holder →
        t.transfer = some q ∧ t.holder = s.holder
        ∧ t.ports = done.ports ∧ t.responseLost = done.responseLost)
    ∧ (∀ q : Transfer, s.transfer = some q → keeps q.requester = true → s.holder.filter keeps ≠ s.holder →
        t.transfer = none ∧ t.holder = some q.requester
        ∧ t.ports = (done.answer q.requester request .granted).ports
        ∧ t.responseLost = (done.answer q.requester request .granted).responseLost)

/-! ### Launched records (R33, R47, R71, R72, R77, R148, R149, R191) -/

/-- What a launch of the staged records alone makes of `u`, sent by station `n`: the records live, the area clear, DONE placed
(R195). -/
def State.launched (u : State) (n : Slot) (tables : Tables) : State :=
  State.answer
    { u with
      tables := tables, staging := [], stagingOwner := none, cursors := Cursors.zero, pendingLaunch := none } n
    { kind := 0x08#8, action := 1#8, door := 0xFF#8 } .done

/-- A door's runtime record that a launch has just reset (R4, R33, R179). -/
def State.launchedDoor (s : State) (i : DoorIx) (state : DoorState) : DoorRuntime :=
  { DoorRuntime.reset state (inhibitedBy s.schemeFuse s.inhibitSet s.tables.settings i) with changed := true }

/-- Command `c` of station `n` launches a record that makes door `i` absent: its activity is cancelled and any held load
released, the runtime record is reset, the door ABSENT and its line stopped; a running step settles it not closed (R33, R103,
R148). -/
abbrev State.LaunchRemoves (s : State) (c : Instr) (n : Slot) (tables : Tables) (i : DoorIx) : Prop :=
  let d := s.doors[i]
  let freed := if d.state = .unknown then s.unload d else s.giveBack i
  let u := State.launched
    ((freed.setDoor i (s.launchedDoor i .absent)).setDoorLine i
      { ctl := { line := .lost, pollTimer := none, replyWait := none, polling := false, settled := false }, held := none })
    n tables
  d.state ≠ .absent → d.LoadSound → s.NobodyGains i → (d.state = .unknown → s.NobodyWaitsFor d) →
    (s.Unawaited i → exec c s = .next u) ∧ s.SettlesBy c u i .notClosed

/-- The same for a record that makes an ABSENT door present: the runtime record is reset, the door UNKNOWN, and the first
POLL, with drive STOP and warning OFF, is sent at once (R33, R139, R140, R148). -/
abbrev State.LaunchAdds (s : State) (c : Instr) (n : Slot) (tables : Tables) (i : DoorIx) : Prop :=
  let x := s.doorLines[i]
  s.doors[i].state = .absent → s.Unawaited i →
    exec c s = .next (State.launched
      ((s.setDoor i (s.launchedDoor i .unknown)).setDoorLine i
        { x with ctl := { x.ctl with
            polling := true, settled := false, pollTimer := some 1
            replyWait := some (if s.beatOn = true then 8#8 else 0#8) } })
      n tables)

/-- The same for a present door's record `r` that stays present: the claim of a QUEUED door whose group or load changes goes to
the tail of its class in the queue of its group, no head then fitting; everything else is kept for later use (R33, R72). -/
abbrev State.LaunchRewrites (s : State) (c : Instr) (n : Slot) (tables : Tables) (i : DoorIx) (r : DoorRecord) : Prop :=
  let d := s.doors[i]
  let old := s.tables.doors[i]
  let moves := d.state = .queued ∧ (old.group ≠ r.group ∨ old.load ≠ r.load)
  let left := s.unqueue i
  let queue := left.groups[r.group].queue
  let claim : Claim := { door := i, dir := d.queuedDir }
  let u := State.launched
    (left.setGroup r.group { left.groups[r.group] with
      queue :=
        if d.queuedDir = .close then
          queue.takeWhile (fun x => x.dir = .close) ++ claim :: queue.dropWhile (fun x => x.dir = .close)
        else queue ++ [claim] })
    n tables
  (moves → (∀ g : GroupIx, g = old.group ∨ g = r.group →
      ∀ h : Claim, u.groups[g].queue.head? = some h → u.fits g h = false) → exec c s = .next u)
    ∧ (¬ moves → s.mode = .working ∨ (d.state ≠ .opened ∧ d.state ≠ .stopped) →
        exec c s = .next (s.launched n tables))

/-- The same for group `g`'s record `r`: a group made absent keeps its queue, in-use and supply, its held flag is set and its
line stopped; one made present is polled at once, with its supply as it stood; a record that changes has the queue
re-examined, and a head that then fits is admitted (R64, R71, R77, R149). -/
abbrev State.LaunchesGroup (s : State) (c : Instr) (n : Slot) (tables : Tables) (g : GroupIx) (r : GroupRecord) : Prop :=
  let x := s.groupLines[g]
  let old := s.tables.groups[g]
  let stopped : LineControl := { line := .lost, pollTimer := none, replyWait := none, polling := false, settled := false }
  let polled : LineControl := { x.ctl with polling := true, settled := false, pollTimer := some 5, replyWait := some 0#8 }
  let taken :=
    if old.present = true ∧ r.present = false then
      (s.setGroup g { s.groups[g] with heldFlag := true }).setGroupLine g { ctl := stopped, held := none }
    else if old.present = false ∧ r.present = true then s.setGroupLine g { x with ctl := polled }
    else s
  let u := taken.launched n tables
  ((∀ h : Claim, u.groups[g].queue.head? = some h → u.fits g h = false) → exec c s = .next u)
    ∧ (s.NoStepRuns → old ≠ r → ∀ (h : Claim) (rest : List Claim), u.AdmitsOne g h rest →
        exec c s = .next (u.admitted g h rest))

/-- The same for the settings record `r`: in the RANGE scheme a changed range gives every door its inhibited flag by R48, and
no other settings record touches a door (R47, R48, R196). -/
abbrev State.LaunchesSettings (s : State) (c : Instr) (n : Slot) (tables : Tables) (r : Settings) : Prop :=
  let old := s.tables.settings
  let inRange : DoorIx → Bool := fun i =>
    decide (r.inhibitFirst ≤ i.val ∧ i.val < r.inhibitFirst + r.inhibitCount)
  let flag : DoorIx → Bool := fun i => if r.inhibitComplement = true then !inRange i else inRange i
  let same := old.inhibitFirst = r.inhibitFirst ∧ old.inhibitCount = r.inhibitCount
    ∧ old.inhibitComplement = r.inhibitComplement
  (s.schemeFuse = false → ¬ same →
      exec c s = .next (State.launched
        { s with
          doors := Vector.ofFn (fun i : DoorIx =>
            { s.doors[i] with inhibited := flag i, changed := s.doors[i].changed || (flag i != s.doors[i].inhibited) }) }
        n tables))
    ∧ (s.schemeFuse = true ∨ same → exec c s = .next (s.launched n tables))

/-- The position of the latest staged entry that writes one of the records `p` names (R191). -/
def latestEntry (p : Entry → Bool) (es : List Entry) : Option Nat :=
  ((List.range es.length).filter (fun k => (es[k]?.map p).getD false)).getLast?

/-- What the cross-check of `ts`, after the staged entries `es`, answers: nothing when every check of R191 holds, else the
reason of the first that fails and the position of the latest entry that wrote a record involved. -/
abbrev CrossChecks (ts : Tables) (es : List Entry) : Prop :=
  let doorFails : DoorIx → Bool := fun i => ts.doors[i].present && !ts.groups[ts.doors[i].group].present
  let doorsPass := ∀ i : DoorIx, doorFails i = false
  let bankFails : BankIx → Bool := fun b => decide (15 < ts.banks[b].header.firstStep)
  let banksPass := ∀ b : BankIx, bankFails b = false
  let windowPasses := ts.settings.windowMin < ts.settings.windowMax
  (doorsPass → banksPass → windowPasses → crossCheck ts es = none)
    ∧ (∀ i : DoorIx, doorFails i = true → (∀ j : DoorIx, j < i → doorFails j = false) →
        crossCheck ts es = some (.doorGroup, latestEntry (fun e => match e with
          | .door j _ => decide (j = i)
          | .group g _ => decide (g = ts.doors[i].group)
          | _ => false) es))
    ∧ (doorsPass → ∀ b : BankIx, bankFails b = true → (∀ a : BankIx, a < b → bankFails a = false) →
        crossCheck ts es = some (.firstStep, latestEntry (fun e => match e with
          | .header a _ => decide (a = b)
          | _ => false) es))
    ∧ (doorsPass → banksPass → ¬ windowPasses →
        crossCheck ts es = some (.cycleWindow, latestEntry (fun e => match e with
          | .settings _ => true
          | _ => false) es))

/-! ### Door reports and motions -/

/-- A report's limits, not both set, leave door record `d` in its state (R14, R19). -/
abbrev DoorRuntime.KeptBy (d : DoorRuntime) (r : DoorReport) : Prop :=
  (d.state = .closed → r.closedLimit = true) ∧ (d.state = .opened → r.closedLimit = false ∧ r.openLimit = true)
    ∧ (d.state = .stopped → r.closedLimit = false ∧ r.openLimit = false)
    ∧ (d.state = .warning ∨ d.state = .recloseWait ∨ d.state = .closing ∨ (d.state = .queued ∧ d.queuedDir = .close) →
        r.closedLimit = false)
    ∧ (d.state = .opening ∨ (d.state = .queued ∧ d.queuedDir = .open) → r.openLimit = false)

/-- A door record with a report's side levels stored and its current activity ended: its timer, or its counters and held load
(R9, R36). -/
def DoorRuntime.ended (d : DoorRuntime) (r : DoorReport) : DoorRuntime :=
  let moving := d.state = .closing ∨ d.state = .opening
  { d with
    sideA := r.sideA, sideB := r.sideB
    timer := if d.state = .warning ∨ d.state = .recloseWait then none else d.timer
    deadline := if moving then { d.deadline with running := false } else d.deadline
    travel := if moving then { d.travel with running := false } else d.travel
    heldLoad := if moving then none else d.heldLoad
    changed := true }

/-- A door record after the same, in a resting state (R8, R32). -/
def DoorRuntime.restedAt (d : DoorRuntime) (r : DoorReport) (x : DoorState) : DoorRuntime :=
  { d.ended r with state := x, seaOpenHeld := if x = .closed then false else d.seaOpenHeld }

/-- Hf by R81 and R82: 256 without a heel term and at an uphill heel up to lo; Hmax at hi and above, or above lo where hi does
not exceed it; and in between on the line between the two, rounded down. -/
abbrev HeelFactorRows : Prop :=
  ∀ (d : DoorRecord) (g : GroupRecord) (dir : Dir) (h : Int),
    let uphill : Int := if (d.orientation = .stbdToPort) = (dir = .close) then h else -h
    (d.orientation = .vertical ∨ d.orientation = .longitudinal → motionFactor d g dir h = 256)
    ∧ (d.orientation = .stbdToPort ∨ d.orientation = .portToStbd →
        (uphill ≤ g.heelLo → motionFactor d g dir h = 256)
        ∧ (g.heelLo < uphill → g.heelHi ≤ g.heelLo ∨ g.heelHi ≤ uphill → motionFactor d g dir h = g.hMax)
        ∧ (∀ e : Nat, uphill = e → g.heelLo < e → e < g.heelHi →
            motionFactor d g dir h = 256 + (g.hMax - 256) * (e - g.heelLo) / (g.heelHi - g.heelLo)))

/-- A group's capacity by R57. -/
abbrev CapacityRows : Prop :=
  ∀ (s : State) (g : GroupIx),
    let r := s.tables.groups[g]
    let both : Nat → Nat → Prop := fun close opening => s.capacity g .close = close ∧ s.capacity g .open = opening
    (r.present = false → both 0 0)
    ∧ (r.present = true →
        (s.groups[g].supply = .main → both r.capMain r.capMain)
        ∧ (s.groups[g].supply = .emergency → both r.capEmergency r.capEmergency)
        ∧ (s.groups[g].supply = .accumulator → both r.capAccumulator 0)
        ∧ (s.groups[g].supply = .failed → both 0 0))

/-- A door at rest at a limit or between them: CLOSED, OPEN or STOPPED. -/
abbrev DoorRuntime.AtRest (d : DoorRuntime) : Prop := d.state = .closed ∨ d.state = .opened ∨ d.state = .stopped

/-- A good report `r` of door `i`, in `bytes`, meets an outstanding POLL outside start-up (R141, R143). -/
abbrev State.Receives (s : State) (i : DoorIx) (bytes : List Byte) (r : DoorReport) : Prop :=
  s.handsOn = true ∧ s.doorLines[i].ctl.replyWait ≠ none ∧ doorReportOfBytes bytes = some r

/-- The door line after a good report (R142, R143): the wait ended, GOOD, the report held. -/
def State.heard (s : State) (i : DoorIx) (r : DoorReport) : State :=
  s.setDoorLine i
    { ctl := { s.doorLines[i].ctl with replyWait := none, settled := true, line := .good }, held := some r }

/-- A cycle start that loop `l`'s supervisor takes and finds timely (R164). -/
abbrev State.Timely (s : State) (l : LoopId) (src : Byte) : Prop :=
  s.actsOnFrames = true ∧ isStation src = true
    ∧ ∃ t : Nat, (s.supervisor l).window = some t ∧ (s.supervisor l).windowMin ≤ t

/-- A record with every field in the range the manual gives it (R2, R54, R92, R186, R189). -/
abbrev DoorRecord.InRange (r : DoorRecord) : Prop :=
  (1 ≤ r.load ∧ r.load ≤ 8) ∧ (10 ≤ r.closeNominal ∧ r.closeNominal ≤ 1200)
    ∧ (10 ≤ r.openNominal ∧ r.openNominal ≤ 1200) ∧ r.margin ≤ 600
    ∧ (∀ n : Nat, r.preWarning = some n → n ≤ 200) ∧ (∀ n : Nat, r.recloseDelay = some n → n ≤ 600)

/-- See `DoorRecord.InRange`. -/
abbrev GroupRecord.InRange (r : GroupRecord) : Prop :=
  r.capMain ≤ 15 ∧ r.capEmergency ≤ 15 ∧ r.capAccumulator ≤ 15 ∧ r.tRef ≤ 60 ∧ r.coefficient ≤ 255
    ∧ r.heelLo ≤ 300 ∧ r.heelHi ≤ 300 ∧ (256 ≤ r.hMax ∧ r.hMax ≤ 1023)

/-- See `DoorRecord.InRange`. -/
abbrev PlanStep.InRange (r : PlanStep) : Prop := r.timeout ≤ 3000

/-- See `DoorRecord.InRange`. -/
abbrev Settings.InRange (r : Settings) : Prop :=
  r.sectionNumber ≤ 255 ∧ (1 ≤ r.windowMin ∧ r.windowMin ≤ 50) ∧ (2 ≤ r.windowMax ∧ r.windowMax ≤ 100)
    ∧ (1 ≤ r.lossLimit ∧ r.lossLimit ≤ 8) ∧ (2 ≤ r.beatHalf ∧ r.beatHalf ≤ 20) ∧ r.preWarning ≤ 200
    ∧ r.recloseDelay ≤ 600 ∧ (10 ≤ r.transferTimeout ∧ r.transferTimeout ≤ 600) ∧ r.inhibitFirst ≤ 23
    ∧ r.inhibitCount ≤ 24

/-- Live tables whose every field is in range and which pass the cross-check (R189, R191). -/
abbrev Tables.InRange (ts : Tables) : Prop :=
  (∀ i : DoorIx, (ts.doors[i]).InRange) ∧ (∀ g : GroupIx, (ts.groups[g]).InRange)
    ∧ (∀ b : BankIx, ts.banks[b].header.firstStep ≤ 15 ∧ ∀ k : StepIx, (ts.banks[b].steps[k]).InRange)
    ∧ ts.settings.InRange ∧ ts.settings.windowMin < ts.settings.windowMax
    ∧ (∀ i : DoorIx, ts.doors[i].present = true → ts.groups[ts.doors[i].group].present = true)

/-- Whether a command is a reset (R203). -/
def resets : Instr → Bool
  | .powerUp _ => true
  | .resetLineAssert => true
  | .restartReset _ => true
  | _ => false

/-- Whether a command can bring a cycle start to a supervisor (R157, R164). -/
def bringsCycleStart : Instr → Bool
  | .cycleStart _ _ _ _ => true
  | .loopFrameArrival _ _ => true
  | _ => false

end Sys2Proof.Machine
end

