-- ==== Sys2Proof/Certificates/Slice0/Obligations.lean ====
section
/-! DEFINITION. Obligations.lean: the statements for the provers, from the numbered rules of the manual. Where a statement
says what a command does it gives the whole next state, so that everything it does not name is unchanged; each order's
ORDER-RESULT is the `answer` that `ResultsAndReportsPlaced` describes. -/

-- One declaration is checked after another, so that no worker threads pile up on a large machine.
set_option Elab.async false

open Sys2Proof Sys2Proof.Machine

/-! ## Reset and start-up (chapters 1 to 10: after reset; R150, R151, R202, R203) -/

/-- What a reset leaves, for the values the manual gives: R4, R7, R49, R55, R74, R94, R128, R138, R163, R169, R171, R172,
R187. -/
def Obligations.ResetValues : Prop :=
  (∀ i : DoorIx,
      State.reset.doors[i] =
        { state := .absent, queuedDir := .close, origin := .remote, passage := false, seaOpenHeld := false,
          heldLoad := none, deadline := { running := false, value := 0 }, travel := { running := false, value := 0 },
          expected := 0, lastClose := 0, lastOpen := 0, slow := false, faultCause := .limits, faultLatched := false,
          manual := false, inhibited := false, localRefused := false, changed := false, timer := none,
          sideA := .none, sideB := .none }
      ∧ State.reset.doorLines[i] =
        { ctl := { line := .lost, pollTimer := none, replyWait := none, polling := false, settled := false }
          held := none })
  ∧ (∀ g : GroupIx,
      State.reset.groups[g] =
        { supply := .accumulator, inUse := 0, queue := [], heldTemp := none, heldFlag := false, tf := 256
          period := none }
      ∧ State.reset.groupLines[g].ctl.line = .lost ∧ State.reset.groupLines[g].held = none)
  ∧ State.reset.beatOn = true ∧ (∀ i : DoorIx, inSet State.reset.inhibitSet i = true) ∧ State.reset.heldHeel = 0
  ∧ State.reset.plan.engine = .idle ∧ State.reset.plan.runningBank = none ∧ State.reset.plan.currentStep = none
  ∧ State.reset.plan.visits = 0 ∧ State.reset.plan.result = PlanResult.clear
  ∧ State.reset.holder = none ∧ State.reset.transfer = none
  ∧ (∀ l : LoopId,
      (State.reset.ports.port l).forward = [] ∧ (State.reset.ports.port l).insertion = []
      ∧ (State.reset.ports.port l).fairness = 0 ∧ (State.reset.ports.port l).badFrames = 0
      ∧ (State.reset.ports.port l).overflow = false ∧ (State.reset.supervisor l).loop = .silent
      ∧ (State.reset.supervisor l).window = none ∧ (State.reset.supervisor l).faults = 0
      ∧ (State.reset.supervisor l).recovery = 0)
  ∧ State.reset.contact = .waiting ∧ State.reset.snapshot = none ∧ State.reset.lastCycle = 0
  ∧ State.reset.responseLost = false ∧ State.reset.staging = [] ∧ State.reset.stagingOwner = none
  ∧ (∀ t : TableId, State.reset.cursors.get t = 0) ∧ State.reset.pendingLaunch = none
  ∧ State.reset.storeEngine = .idle ∧ State.reset.saveImage = none ∧ State.reset.storeSender = none
  ∧ State.reset.lastSave = .none ∧ State.reset.pending = []

/-- Every invariant of this file holds right after reset. -/
def Obligations.ResetMeetsInvariants : Prop :=
  State.reset.PortsWithinLimits ∧ State.reset.TravelInRange ∧ State.reset.StagingSound
    ∧ State.reset.AuthoritySound ∧ State.reset.ContactSound ∧ State.reset.LoadsBalance
    ∧ State.reset.SeaOpeningsHeld

/-- The three resets and the release of the reset line: every piece of state takes its reset value but the scheme fuse
and the flags that follow it (R51, R203), and start-up begins with the straps read and the start-up load started (R153,
R202). The reset of a RESTART waits until its DONE has left every queue it was placed in (R203). The model's choice: that a
release outside a reset, and a RESTART_RESET outside the restart wait or before the DONE has left, change nothing (log entry
10); that the DONE has left its queue when that queue is empty (log entry 16); and the mark `storeTorn` of a SAVE that the
reset cuts short (log entry 5). -/
def Obligations.ResetsAndRelease : Prop :=
  ∀ (s : State) (straps : BitVec 7),
    let fresh : ResetCause → State := fun cause =>
      { State.reset with
        resetCause := cause
        schemeFuse := s.schemeFuse
        doors := Vector.replicate 24 (DoorRuntime.reset .absent s.schemeFuse)
        storeTorn := s.storeTorn || decide (s.storeEngine = .saving)
        choices := s.choices
        pending := s.pending }
    let begun : State → State := fun t => { t with straps := straps, phase := .loading, storeTimer := some 10 }
    exec (.powerUp straps) s = .next (begun (fresh .power))
    ∧ exec .resetLineAssert s = .next (fresh .line)
    ∧ (s.phase = .inReset → exec (.resetLineRelease straps) s = .next (begun s))
    ∧ (s.phase ≠ .inReset → exec (.resetLineRelease straps) s = .next s)
    ∧ (∀ inA inB : Bool, s.phase = .restartWait inA inB →
        ((inA = true → s.ports.a.insertion = []) ∧ (inB = true → s.ports.b.insertion = []) →
          exec (.restartReset straps) s = .next (begun (fresh .order)))
        ∧ ((inA = true ∧ s.ports.a.insertion ≠ []) ∨ (inB = true ∧ s.ports.b.insertion ≠ []) →
          exec (.restartReset straps) s = .next s))
    ∧ ((∀ inA inB : Bool, s.phase ≠ .restartWait inA inB) → exec (.restartReset straps) s = .next s)

/-- The start-up load: a good image's records, or the empty tables of R185 for a bad one, a torn one or none within 10
tenths, are placed with no owner and no result; present doors are UNKNOWN, the others ABSENT; the mode is the start mode,
or WORKING under an address fault; the active loop is the preferred one; every present line sends its first POLL at once,
a door's with drive STOP and warning OFF (R123, R150, R154, R168, R185, R202). The mark `storeTorn`, by which an image torn
by a reset (R200) counts as a bad one, is the model's choice (log entry 5). -/
def Obligations.StartUpLoadPlacesTables : Prop :=
  ∀ (s : State) (image : List Byte),
    let placed : Tables → Bool → State := fun ts fromStore =>
      { s with
        tables := ts
        tablesFromStore := fromStore
        doors := Vector.ofFn (fun i : DoorIx =>
          DoorRuntime.reset (if ts.doors[i].present then .unknown else .absent)
            (inhibitedBy s.schemeFuse s.inhibitSet ts.settings i))
        doorLines := Vector.ofFn (fun i : DoorIx =>
          if ts.doors[i].present then
            { s.doorLines[i] with ctl :=
              { line := s.doorLines[i].ctl.line, pollTimer := some 1, replyWait := some (byteOf (flag s.beatOn * 8)),
                polling := true, settled := false } }
          else s.doorLines[i])
        groupLines := Vector.ofFn (fun g : GroupIx =>
          if ts.groups[g].present then
            { s.groupLines[g] with ctl :=
              { line := s.groupLines[g].ctl.line, pollTimer := some 5, replyWait := some 0#8, polling := true,
                settled := false } }
          else s.groupLines[g])
        mode := if s.addressFault then .working else ts.settings.startMode
        activeLoop := ts.settings.preferredLoop
        storeTimer := none
        phase := .settling }
    s.phase = .loading →
      (∀ es : List Entry, goodImage image = some es → s.storeTorn = false →
        exec (.startupLoadComplete image) s = .next (placed (writeEntries Tables.empty es) true))
      ∧ (goodImage image = none ∨ s.storeTorn = true →
        exec (.startupLoadComplete image) s = .next (placed Tables.empty false))
      ∧ (s.storeTimer = some 0 → exec .startupLoadTimeout s = .next (placed Tables.empty false))

/-- The end of start-up: when the tables are placed and every polled line has settled its first POLL, the node runs, the
lamp beat starts, the compensation periods start from 100, and, without an address fault, both windows start with the live
limits; a present group whose line is not GOOD has its held flag set (R7, R77, R78, R151, R163, R202). That a START_UP_END
at any other moment changes nothing is the model's choice (log entry 10). -/
def Obligations.StartUpEnds : Prop :=
  ∀ s : State,
    (s.phase = .settling ∧ s.pendingLaunch = none
        ∧ (∀ i : DoorIx, s.doorLines[i].ctl.polling = true → s.doorLines[i].ctl.settled = true)
        ∧ (∀ g : GroupIx, s.groupLines[g].ctl.polling = true → s.groupLines[g].ctl.settled = true) →
      ∃ t : State, exec .startUpEnd s = .next t
        ∧ t.outside = State.outside
            { s with
              phase := .running
              beatTimer := some s.tables.settings.beatHalf
              ports :=
                if s.addressFault then s.ports
                else { a := s.ports.a.startWindow s.tables.settings, b := s.ports.b.startWindow s.tables.settings } }
        ∧ (∀ g : GroupIx, t.groups[g].period = some 100 ∧ t.groups[g].tf = s.groups[g].tf)
        ∧ (∀ g : GroupIx, s.tables.groups[g].present = true → s.groupLines[g].ctl.line ≠ .good →
            t.groups[g].heldFlag = true))
    ∧ (s.phase ≠ .settling ∨ (∃ i : DoorIx, s.doorLines[i].ctl.polling = true ∧ s.doorLines[i].ctl.settled = false)
        ∨ (∃ g : GroupIx, s.groupLines[g].ctl.polling = true ∧ s.groupLines[g].ctl.settled = false) →
      exec .startUpEnd s = .next s)

/-! ## The door loop (chapter 8, R204 to R206) -/

/-- A loop frame passes its check exactly when it is header, payload of at most 240 bytes with its length in the length
field, and the CRC over both (R155, R204). -/
def Obligations.FrameCheck : Prop :=
  ∀ (bytes : List Byte) (f : LoopFrame),
    frameOfBytes bytes = some f ↔
      f.payload.length ≤ 240
      ∧ bytes = withCrc (f.dest :: f.src :: f.kind :: f.cycle :: byteOf f.payload.length :: f.payload)

/-- The fate of a frame at a port: before the straps are read it is discarded; a bad one is dropped and counted up to 255
(R155); a good one is stripped, or passed on, by its addresses (R156), and an address fault passes every good one on
(R154); one taken in during start-up is discarded (R158). A frame passed on joins a forward buffer of at most 3, or is
dropped with the overflow flag set (R159), and an idle transmitter starts it at once (R162). -/
def Obligations.FrameFate : Prop :=
  ∀ (s : State) (l : LoopId) (bytes : List Byte),
    let p := s.ports.port l
    let passedOn : State → Prop := fun t =>
      (3 ≤ p.forward.length → t = s.setPort l { p with overflow := true })
      ∧ (p.forward.length < 3 → p.sending ≠ none → t = s.setPort l { p with forward := p.forward ++ [bytes] })
      ∧ (p.forward = [] → p.insertion = [] → p.sending = none →
          t = s.setPort l { p with sending := some (.through bytes), fairness := 0 })
    (s.phase = .inReset → exec (.loopFrameArrival l bytes) s = .next s)
    ∧ (s.phase ≠ .inReset →
        (frameOfBytes bytes = none →
          exec (.loopFrameArrival l bytes) s =
            .next (s.setPort l { p with badFrames := min 255 (p.badFrames + 1) }))
        ∧ (∀ f : LoopFrame, frameOfBytes bytes = some f →
            (s.ownAddress = none → ∃ t : State, exec (.loopFrameArrival l bytes) s = .next t ∧ passedOn t)
            ∧ (∀ own : Nat, s.ownAddress = some own →
                (f.src.toNat = own → exec (.loopFrameArrival l bytes) s = .next s)
                ∧ (f.src.toNat ≠ own → f.dest.toNat ≠ own → f.dest.toNat ≠ 127 →
                    ∃ t : State, exec (.loopFrameArrival l bytes) s = .next t ∧ passedOn t)
                ∧ (f.src.toNat ≠ own → f.dest.toNat = own → s.phase ≠ .running →
                    exec (.loopFrameArrival l bytes) s = .next s))))

/-- The frame that carries an order or a cycle start to the node, laid out by R204 and R205, does exactly what its row of
the table does: an order on the active loop, a cycle start on the loop its row names. An order taken in on the other loop
is not acted on (R156, R157). -/
def Obligations.FrameDoesAsItsRow : Prop :=
  ∀ (s : State) (l : LoopId) (c : Instr) (own : Nat) (stationCycle : Byte) (bytes : List Byte),
    c.wf = true → s.ownAddress = some own → s.phase ≠ .inReset → frameOf own stationCycle c = some bytes →
      (((∀ (m : LoopId) (src cycle : Byte) (heel : Word16), c ≠ .cycleStart m src cycle heel) → l = s.activeLoop →
          exec (.loopFrameArrival l bytes) s = exec c s)
        ∧ ((∀ (m : LoopId) (src cycle : Byte) (heel : Word16), c ≠ .cycleStart m src cycle heel) → l ≠ s.activeLoop →
          exec (.loopFrameArrival l bytes) s = .next s)
        ∧ (∀ (src cycle : Byte) (heel : Word16), c = .cycleStart l src cycle heel →
          exec (.loopFrameArrival l bytes) s = exec c s))

/-- A broadcast frame of another party is both passed on and taken in; which comes first is a free value (R156, R162,
R173; log entry 6). -/
def Obligations.BroadcastFrame : Prop :=
  ∀ (s : State) (l : LoopId) (bytes : List Byte) (f : LoopFrame) (own : Nat),
    s.phase ≠ .inReset → s.ownAddress = some own → frameOfBytes bytes = some f → f.src.toNat ≠ own →
      f.dest.toNat = 127 →
      let s1 : State := { s with choices := s.choices + 1 }
      exec (.loopFrameArrival l bytes) s = .next ((s1.forward l bytes).takeIn l f)
      ∨ exec (.loopFrameArrival l bytes) s = .next ((s1.takeIn l f).forward l bytes)

/-- The arbiter at the end of a sending: the rows of R162 with the moves of the fairness count. That a TRANSMIT_END with
nothing being sent changes nothing is the model's choice (log entry 10). -/
def Obligations.TransmitEndArbitrates : Prop :=
  ∀ (s : State) (l : LoopId),
    let p := s.ports.port l
    (p.sending = none → exec (.transmitEnd l) s = .next s)
    ∧ (p.sending ≠ none →
        (∀ (x : List Byte) (xs : List (List Byte)) (f : NodeFrame) (fs : List NodeFrame),
          p.forward = x :: xs → p.insertion = f :: fs →
            (8 ≤ p.fairness → exec (.transmitEnd l) s =
              .next (s.setPort l { p with sending := some (.own f), insertion := fs, fairness := 0 }))
            ∧ (p.fairness < 8 → exec (.transmitEnd l) s =
              .next (s.setPort l { p with sending := some (.through x), forward := xs, fairness := p.fairness + 1 })))
        ∧ (∀ (x : List Byte) (xs : List (List Byte)), p.forward = x :: xs → p.insertion = [] →
            exec (.transmitEnd l) s =
              .next (s.setPort l { p with sending := some (.through x), forward := xs, fairness := 0 }))
        ∧ (∀ (f : NodeFrame) (fs : List NodeFrame), p.forward = [] → p.insertion = f :: fs →
            exec (.transmitEnd l) s =
              .next (s.setPort l { p with sending := some (.own f), insertion := fs, fairness := 0 }))
        ∧ (p.forward = [] → p.insertion = [] → exec (.transmitEnd l) s = .next (s.setPort l { p with sending := none })))

/-- Placing node frames: an ORDER-RESULT carries what R121 and R206 name and goes to both queues, dropped with the
response-lost flag where a queue holds 4; none is placed when the node does not act on frames (R160, R203); a
SECTION-REPORT takes an unsent report's place, joins a queue with room, or is dropped (R161). -/
def Obligations.ResultsAndReportsPlaced : Prop :=
  (∀ (s : State) (n : Slot) (tag : OrderTag) (o : OrderOutcome),
    let f : NodeFrame := .orderResult
      { dest := n, cycle := s.lastCycle, kind := tag.kind, action := tag.action, door := tag.door, outcome := o,
        position := none, reason := none }
    (s.actsOnFrames = false → s.answer n tag o = s)
    ∧ (s.actsOnFrames = true → s.answer n tag o =
        { s with
          ports := { a := s.ports.a.placeResult f, b := s.ports.b.placeResult f }
          responseLost :=
            s.responseLost || decide (4 ≤ s.ports.a.insertion.length) || decide (4 ≤ s.ports.b.insertion.length) }))
  ∧ (∀ (p : Port) (f : NodeFrame),
    (4 ≤ p.insertion.length → p.placeResult f = p)
    ∧ (p.insertion.length < 4 → p.sending ≠ none → p.placeResult f = { p with insertion := p.insertion ++ [f] })
    ∧ (p.forward = [] → p.insertion = [] → p.sending = none →
        p.placeResult f = { p with sending := some (.own f), fairness := 0 }))
  ∧ (∀ (p : Port) (f : NodeFrame) (older newer : List NodeFrame) (old : NodeFrame),
    p.insertion = older ++ old :: newer → old.isReport = true → (∀ x ∈ older ++ newer, x.isReport = false) →
      p.placeReport f false = { p with insertion := older ++ f :: newer }
      ∧ p.placeReport f true = { p with insertion := older ++ newer ++ [f] })
  ∧ (∀ (p : Port) (f : NodeFrame) (tail : Bool), (∀ x ∈ p.insertion, x.isReport = false) →
    (4 ≤ p.insertion.length → p.placeReport f tail = p)
    ∧ (p.insertion.length < 4 → p.sending ≠ none →
        p.placeReport f tail = { p with insertion := p.insertion ++ [f] }))

/-! ## Supervision, contact and the cycle start (R163 to R170, R173, R178, R181, R193) -/

/-- A window fault that does not change the loop state: counted by an early cycle start, whose window runs on, and by a
window expiry, which restarts the window with the live limits (R164, R165, R167). That a WINDOW_EXPIRY below the maximum
changes nothing is the model's choice (log entry 10). -/
def Obligations.WindowFaultCounted : Prop :=
  ∀ (s : State) (l : LoopId) (src cycle : Byte) (heel : Word16) (t : Nat),
    let p := s.supervisor l
    let st := s.tables.settings
    let counted : Supervisor → Supervisor := fun q =>
      if p.loop = .lost then
        { q with recovery := 0, faults := if p.faults < st.lossLimit then p.faults + 1 else st.lossLimit }
      else { q with faults := p.faults + 1 }
    p.window = some t → (p.loop = .lost ∨ p.faults + 1 < st.lossLimit) →
      (s.actsOnFrames = true → isStation src = true → t < p.windowMin →
        exec (.cycleStart l src cycle heel) s = .next (s.setSupervisor l (counted p)))
      ∧ (p.windowMax ≤ t →
        exec (.windowExpiry l) s = .next (s.setSupervisor l
          (counted { p with window := some 0, windowMin := st.windowMin, windowMax := st.windowMax })))
      ∧ (t < p.windowMax → exec (.windowExpiry l) s = .next s)

/-- A loop that reaches the loss limit becomes LOST; the other loop takes over when it is GOOD, and the contact state
follows from the first row of R169 that holds. With the isolation action HOLD nothing else changes (R165, R168 to R170). -/
def Obligations.LoopLost : Prop :=
  ∀ (s : State) (l : LoopId) (t : Nat),
    let p := s.supervisor l
    let st := s.tables.settings
    let other := (s.supervisor (otherLoop l)).loop
    p.window = some t → p.windowMax ≤ t → p.loop ≠ .lost → st.lossLimit ≤ p.faults + 1 → st.isolation = .hold →
      exec (.windowExpiry l) s =
        .next { s.setSupervisor l
            { p with loop := .lost, faults := p.faults + 1, window := some 0, windowMin := st.windowMin,
                     windowMax := st.windowMax } with
          activeLoop := if l = s.activeLoop ∧ other = .good then otherLoop l else s.activeLoop
          contact :=
            if other = .good then .connected else if other = .lost then .isolated else .waiting }

/-- The isolation action CLOSE at an entry to ISOLATED: a section in WORKING mode goes to SEA, its passage and sea-open held
flags clear, and a run starts on the active bank; one in SEA with the engine IDLE or DONE starts a run as for a RERUN; one in
SEA with a run in progress is left as it is. With no opening to withdraw, the entry of a first step that waits and the sea
reclose rule after it are exact (R30, R98 to R102, R106, R125, R170). -/
def Obligations.IsolationCloses : Prop :=
  ∀ (s : State) (l : LoopId) (t : Nat),
    let p := s.supervisor l
    let st := s.tables.settings
    let isolated : State :=
      { s.setSupervisor l
          { p with loop := .lost, faults := p.faults + 1, window := some 0, windowMin := st.windowMin,
                   windowMax := st.windowMax } with
        contact := .isolated }
    p.window = some t → p.windowMax ≤ t → p.loop ≠ .lost → st.lossLimit ≤ p.faults + 1 → st.isolation = .close →
      (s.supervisor (otherLoop l)).loop = .lost → s.contact ≠ .isolated →
        (s.mode = .working → s.pendingLaunch = none →
          ∃ u : State, exec (.windowExpiry l) s = .next u
            ∧ u.outside = State.outside { isolated with mode := .sea }
            ∧ s.RunStarts u.plan
            ∧ (∀ i : DoorIx, u.doors[i].passage = false ∧ u.doors[i].seaOpenHeld = false))
        ∧ (s.mode = .working → (∀ i : DoorIx, s.doors[i].state ≠ .opening
            ∧ (s.doors[i].state = .queued → s.doors[i].queuedDir = .close)) →
          ∀ k : StepIx, isolated.toSea.EntersFirst k → exec (.windowExpiry l) s = .next (isolated.toSea.runEntered k))
        ∧ (s.mode = .sea → s.plan.engine.inRun = false → s.pendingLaunch = none →
          ∃ u : State, exec (.windowExpiry l) s = .next u ∧ u.outside = isolated.outside ∧ s.RunStarts u.plan)
        ∧ (s.mode = .sea → s.plan.engine.inRun = false →
          ∀ k : StepIx, isolated.EntersFirst k → exec (.windowExpiry l) s = .next (isolated.runEntered k))
        ∧ (s.mode = .sea → s.plan.engine.inRun = true → exec (.windowExpiry l) s = .next isolated)

/-- A timely cycle start on the loop that is not active restarts its window and moves its state: two are needed to return
from LOST; a loop that becomes GOOD while the active one is not takes over. It is handed to no block (R164, R166,
R168, R169). -/
def Obligations.TimelyCycleStartElsewhere : Prop :=
  ∀ (s : State) (l : LoopId) (src cycle : Byte) (heel : Word16),
    let p := s.supervisor l
    let st := s.tables.settings
    let fresh : Supervisor :=
      { p with faults := 0, window := some 0, windowMin := st.windowMin, windowMax := st.windowMax }
    let active := (s.supervisor (otherLoop l)).loop
    s.Timely l src → l ≠ s.activeLoop →
      (p.loop = .good → exec (.cycleStart l src cycle heel) s = .next (s.setSupervisor l fresh))
      ∧ (p.loop = .lost → p.recovery = 0 →
          exec (.cycleStart l src cycle heel) s = .next (s.setSupervisor l { fresh with recovery := 1 }))
      ∧ (p.loop = .silent ∨ (p.loop = .lost ∧ p.recovery ≠ 0) →
          exec (.cycleStart l src cycle heel) s =
            .next { s.setSupervisor l { fresh with loop := .good, recovery := 0 } with
              activeLoop := if active = .good then s.activeLoop else l
              contact := .connected })

/-- An accepted cycle start with no launch to take: the supervisor is timely, the heel is clamped and held, the beat
realigned, the snapshot taken, the report flags cleared and the SECTION-REPORT placed with the frame's cycle number (R7,
R74, R164, R166, R173, R178, R181). `choices` is the model's count of free values. -/
def Obligations.AcceptedCycleStart : Prop :=
  ∀ (s : State) (l : LoopId) (src cycle : Byte) (heel : Word16),
    let p := s.supervisor l
    let st := s.tables.settings
    let keeps := p.loop = .good ∨ (p.loop = .lost ∧ p.recovery = 0)
    let moved : Supervisor :=
      { p with
        loop := if p.loop = .lost ∧ p.recovery = 0 then .lost else .good
        recovery := if p.loop = .good then p.recovery else if p.loop = .lost ∧ p.recovery = 0 then 1 else 0
        faults := 0, window := some 0, windowMin := st.windowMin, windowMax := st.windowMax }
    let shown : State :=
      { s.setSupervisor l moved with
        contact := if keeps then s.contact else .connected
        heldHeel := max (-300) (min 300 heel.toInt)
        beatOn := true
        beatTimer := some st.beatHalf
        choices := s.choices + 1 }
    let clear : Port → Port := fun q => { q with badFrames := 0, overflow := false }
    let sent : NodeFrame := .sectionReport cycle.toNat shown.snapshotNow
    s.Timely l src → l = s.activeLoop →
      (∀ q : PendingLaunch, s.pendingLaunch = some q → q.mode = .now ∨ s.stagingHeld = true) →
      exec (.cycleStart l src cycle heel) s =
        .next { shown with
          doors := s.doors.map (fun d => { d with changed := false, localRefused := false })
          ports := { a := (clear shown.ports.a).placeReport sent false
                     b := (clear shown.ports.b).placeReport sent false }
          responseLost := false
          snapshot := some shown.snapshotNow
          lastCycle := cycle.toNat }

/-- A pending AT-CYCLE launch at an accepted cycle start, no running bank holding it: a failed cross-check clears the
launch, keeps the area and answers CHECK-FAILED with position and reason; a passed one writes the staged records over the
live tables in order, empties the area and answers DONE. Either result joins both queues before the SECTION-REPORT of the
cycle start, whose snapshot shows no launch pending (R161, R173, R181, R190, R191, R193, R195). A launch that changes the
station table is answered so too while the holder and the requester keep their rights (R134). The result's cycle number, the
last one from before this cycle start, is the model's choice (log entry 17). -/
def Obligations.AtCycleLaunchTaken : Prop :=
  ∀ (s : State) (l : LoopId) (src cycle : Byte) (heel : Word16) (n : Slot) (silent : Bool),
    let tables := writeEntries s.tables s.staging
    let keeps : Slot → Prop := fun m => tables.stations = s.tables.stations ∨ hasCommand tables m = true
    let result : OrderOutcome → Option Nat → Option CheckReason → NodeFrame := fun o position reason => .orderResult
      { dest := n, cycle := s.lastCycle, kind := 0x08#8, action := 2#8, door := 0xFF#8, outcome := o,
        position := position, reason := reason }
    let reported : Port → Supervisor → NodeFrame → Snapshot → Port := fun p sup f snap =>
      let q := p.placeResult f
      Port.placeReport { q with badFrames := 0, overflow := false, sup := sup } (.sectionReport cycle.toNat snap)
        (decide (p.insertion.length < q.insertion.length))
    s.Timely l src → l = s.activeLoop → s.pendingLaunch = some { mode := .atCycle, sender := n, silent := silent } →
      s.stagingHeld = false →
      ∃ t : State, exec (.cycleStart l src cycle heel) s = .next t
        ∧ t.pendingLaunch = none ∧ t.lastCycle = cycle.toNat ∧ t.heldHeel = max (-300) (min 300 heel.toInt)
        ∧ t.snapshot.map Snapshot.launchPending = some none
        ∧ (∀ snap : Snapshot, t.snapshot = some snap →
            (∀ (reason : CheckReason) (position : Option Nat), crossCheck tables s.staging = some (reason, position) →
              t.tables = s.tables ∧ t.staging = s.staging ∧ t.stagingOwner = s.stagingOwner ∧ t.cursors = s.cursors
              ∧ t.ports.a = reported s.ports.a t.ports.a.sup (result .checkFailed position (some reason)) snap
              ∧ t.ports.b = reported s.ports.b t.ports.b.sup (result .checkFailed position (some reason)) snap)
            ∧ (crossCheck tables s.staging = none →
              t.tables = tables ∧ t.staging = [] ∧ t.stagingOwner = none ∧ t.cursors = Cursors.zero
              ∧ ((∀ h : Slot, s.holder = some h → keeps h) →
                  (∀ q : Transfer, s.transfer = some q → keeps q.requester) →
                  t.ports.a = reported s.ports.a t.ports.a.sup (result .done none none) snap
                  ∧ t.ports.b = reported s.ports.b t.ports.b.sup (result .done none none) snap
                  ∧ t.holder = s.holder ∧ t.transfer = s.transfer)))

/-- A SECTION-REPORT's payload has 215 bytes: door n at 7n to 7n + 6, group g at 168 + 7g to 174 + 7g, the section items
from 196 on (R206). -/
def Obligations.SectionReportLayout : Prop :=
  ∀ s : State,
    (snapshotBytes s.snapshotNow).length = 215
    ∧ (∀ i : DoorIx, ((snapshotBytes s.snapshotNow).drop (7 * i.val)).take 7 = snapDoorBytes (s.snapDoor i))
    ∧ (∀ g : GroupIx, ((snapshotBytes s.snapshotNow).drop (168 + 7 * g.val)).take 7 = snapGroupBytes (s.snapGroup g))
    ∧ (snapshotBytes s.snapshotNow).drop 196 = snapSectionBytes s.snapshotNow

/-! ## Field lines (chapter 7) -/

/-- A POLL sent when its line's timer has expired: its byte is the drive, the warning and the beat phase of R207, STOP and
OFF during start-up, and 00 on a group line; the timer restarts from the full period (R6, R139, R140). That a POLL whose
timer still runs, or whose line is not polled, changes nothing is the model's choice (log entry 10). -/
def Obligations.PollsSent : Prop :=
  (∀ (s : State) (i : DoorIx),
    let x := s.doorLines[i]
    let d := s.doors[i]
    let drive : Nat := if d.state = .closing then 64 else if d.state = .opening then 128 else 0
    let warning : Nat :=
      if d.state = .closing ∨ d.state = .opening then 32
      else if d.state = .warning ∨ (d.state = .queued ∧ d.queuedDir = .close) then 16 else 0
    let byte := byteOf ((if s.handsOn = true then drive + warning else 0) + (if s.beatOn = true then 8 else 0))
    (x.ctl.polling = true ∧ x.ctl.pollTimer = some 0 →
      exec (.linePoll (.door i)) s =
        .next (s.setDoorLine i { x with ctl := { x.ctl with pollTimer := some 1, replyWait := some byte } }))
    ∧ (x.ctl.polling = false ∨ x.ctl.pollTimer ≠ some 0 → exec (.linePoll (.door i)) s = .next s))
  ∧ (∀ (s : State) (g : GroupIx),
    let x := s.groupLines[g]
    (x.ctl.polling = true ∧ x.ctl.pollTimer = some 0 →
      exec (.linePoll (.group g)) s =
        .next (s.setGroupLine g { x with ctl := { x.ctl with pollTimer := some 5, replyWait := some 0#8 } }))
    ∧ (x.ctl.polling = false ∨ x.ctl.pollTimer ≠ some 0 → exec (.linePoll (.group g)) s = .next s))

/-- Replies on a door line that reach no door machine: late ones and timeouts with no POLL outstanding change nothing; a
damaged reply and the timeout are one miss each, which moves the line by R142; a good report of start-up is held (R141,
R142, R145, R150). A REPORT's two bytes before their CRC are read by R207; another length, a bad CRC or an unassigned code is
damage. The model's choice: that a timeout with no POLL outstanding changes nothing (log entry 10), and that a
line that passes LOST during start-up sets no changed flag (log entry 11). -/
def Obligations.DoorLineReplies : Prop :=
  ∀ (s : State) (i : DoorIx) (bytes : List Byte),
    let x := s.doorLines[i]
    let missed : State := s.setDoorLine i
      { ctl := { x.ctl with
          replyWait := none, settled := true
          line := if x.ctl.line = .good then .missed1 else if x.ctl.line = .missed1 then .missed2 else .lost }
        held := if x.ctl.line = .good ∨ x.ctl.line = .missed1 then x.held else none }
    (x.ctl.replyWait = none →
      exec (.doorReportArrival i bytes) s = .next s ∧ exec (.lineReplyTimeout (.door i)) s = .next s)
    ∧ (x.ctl.replyWait ≠ none → s.handsOn = false ∨ x.ctl.line ≠ .missed2 →
        exec (.lineReplyTimeout (.door i)) s = .next missed
        ∧ (doorReportOfBytes bytes = none → exec (.doorReportArrival i bytes) s = .next missed))
    ∧ (∀ r : DoorReport, x.ctl.replyWait ≠ none → s.handsOn = false → doorReportOfBytes bytes = some r →
        exec (.doorReportArrival i bytes) s = .next (s.heard i r))
    ∧ ((∀ b0 b1 : Byte, bytes ≠ withCrc [b0, b1]) → doorReportOfBytes bytes = none)
    ∧ (∀ b0 b1 : Byte, bytes = withCrc [b0, b1] →
        let sideA := b0.toNat / 8 % 4
        let sideB := b0.toNat / 2 % 4
        let level : Nat → Level := fun code => if code = 1 then .open else if code = 2 then .close else .none
        (sideA = 3 ∨ sideB = 3 ∨ 4 ≤ b1.toNat → doorReportOfBytes bytes = none)
        ∧ (sideA ≠ 3 → sideB ≠ 3 → b1.toNat < 4 → doorReportOfBytes bytes = some
            { closedLimit := b0.getLsbD 7, openLimit := b0.getLsbD 6, handPump := b0.getLsbD 5
              sideA := level sideA, sideB := level sideB
              unitFault := if b1 = 1#8 then .valve else if b1 = 2#8 then .supply
                else if b1 = 3#8 then .sensor else .none }))

/-- The third miss of a door line outside start-up: the line is LOST with no held report, and the door, unless it is ABSENT,
is UNKNOWN, its held load and its deadline kept; the claim of a QUEUED door leaves its queue, and the head behind it does not
fit. A door that a running step waits for settles not closed, and the step's last one completes it (R22, R61, R64, R69,
R103, R105, R142, R146). -/
def Obligations.DoorLineLost : Prop :=
  ∀ (s : State) (i : DoorIx) (bytes : List Byte),
    let x := s.doorLines[i]
    let d := s.doors[i]
    let moving := d.state = .closing ∨ d.state = .opening
    let silent : State := s.setDoorLine i
      { ctl := { x.ctl with replyWait := none, settled := true, line := .lost }, held := none }
    let lost : State := (if d.state = .queued then silent.unqueue i else silent).setDoor i
      { d with
        state := .unknown
        passage := false
        timer := if d.state = .warning ∨ d.state = .recloseWait then none else d.timer
        travel := if moving then { d.travel with running := false } else d.travel
        changed := true }
    s.handsOn = true → x.ctl.replyWait ≠ none → x.ctl.line = .missed2 → d.state ≠ .absent →
      (d.state = .queued → s.NobodyFollows i) →
      (s.NoStepRuns →
        exec (.lineReplyTimeout (.door i)) s = .next lost
        ∧ (doorReportOfBytes bytes = none → exec (.doorReportArrival i bytes) s = .next lost))
      ∧ (d.state ≠ .unknown →
        s.SettlesBy (.lineReplyTimeout (.door i)) lost i .notClosed
        ∧ (doorReportOfBytes bytes = none → s.SettlesBy (.doorReportArrival i bytes) lost i .notClosed))

/-- Replies on a group line that bring no report: a miss moves the line; outside start-up the first sets the held flag and
the third takes the supply as ACCUMULATOR (R56, R77, R142, R145, R146). A REPORT's two bytes before their CRC are read by
R207; any other reply is damaged. That a timeout with no POLL outstanding changes
nothing is the model's choice (log entry 10). -/
def Obligations.GroupLineMisses : Prop :=
  ∀ (s : State) (g : GroupIx) (bytes : List Byte),
    let x := s.groupLines[g]
    let missed : LineState → Option GroupReport → State := fun line held => s.setGroupLine g
      { ctl := { x.ctl with replyWait := none, settled := true, line := line }, held := held }
    let both : State → Prop := fun t =>
      exec (.lineReplyTimeout (.group g)) s = .next t
      ∧ (groupReportOfBytes bytes = none → exec (.groupReportArrival g bytes) s = .next t)
    (x.ctl.replyWait = none →
      exec (.groupReportArrival g bytes) s = .next s ∧ exec (.lineReplyTimeout (.group g)) s = .next s)
    ∧ (x.ctl.replyWait ≠ none →
        (x.ctl.line = .good → s.handsOn = false → both (missed .missed1 x.held))
        ∧ (x.ctl.line = .good → s.handsOn = true →
            both ((missed .missed1 x.held).setGroup g { s.groups[g] with heldFlag := true }))
        ∧ (x.ctl.line = .missed1 → both (missed .missed2 x.held))
        ∧ (x.ctl.line = .missed2 → s.handsOn = false → both (missed .lost none))
        ∧ (x.ctl.line = .missed2 → s.handsOn = true → s.groups[g].queue = [] →
            both ((missed .lost none).setGroup g { s.groups[g] with supply := .accumulator }))
        ∧ (x.ctl.line = .lost → both (missed .lost none)))
    ∧ ((∀ b0 b1 : Byte, bytes ≠ withCrc [b0, b1]) → groupReportOfBytes bytes = none)
    ∧ (∀ b0 b1 : Byte, bytes = withCrc [b0, b1] →
        let code := b0.toNat / 64
        groupReportOfBytes bytes = some
          { supply := if code = 0 then .main else if code = 1 then .emergency
              else if code = 2 then .accumulator else .failed
            temperature := b1.toInt, tempValid := b0.getLsbD 5, pump := b0.getLsbD 4 })

/-- A good group report: the line GOOD, the report held, the supply set and the temperature taken, clamped to −40..+100;
during start-up it is only held. A supply that changes the group's capacity in either direction has the queue re-examined, and
a waiting head that then fits is admitted (R56, R63, R70, R76, R144, R150). -/
def Obligations.GroupReportTaken : Prop :=
  ∀ (s : State) (g : GroupIx) (bytes : List Byte) (r : GroupReport),
    let x := s.groupLines[g]
    let heard : State := s.setGroupLine g
      { ctl := { x.ctl with replyWait := none, settled := true, line := .good }, held := some r }
    let taken : State := heard.setGroup g
      { s.groups[g] with
        supply := r.supply
        heldTemp := if r.tempValid = true then some (max (-40) (min 100 r.temperature)) else s.groups[g].heldTemp
        heldFlag := !r.tempValid }
    let sameCapacity := taken.capacity g .close = s.capacity g .close ∧ taken.capacity g .open = s.capacity g .open
    x.ctl.replyWait ≠ none → groupReportOfBytes bytes = some r →
      (s.handsOn = false → exec (.groupReportArrival g bytes) s = .next heard)
      ∧ (s.handsOn = true →
          s.groups[g].queue = [] ∨ sameCapacity ∨ (∀ c : Claim, s.groups[g].queue.head? = some c → taken.fits g c = false) →
          exec (.groupReportArrival g bytes) s = .next taken)
      ∧ (s.handsOn = true → s.NoStepRuns → ¬ sameCapacity →
          ∀ (c : Claim) (rest : List Claim), taken.AdmitsOne g c rest →
            exec (.groupReportArrival g bytes) s = .next (taken.admitted g c rest))

/-! ## Door machines on reports (chapters 1 and 2) -/

/-- A good report with no press, release or fault. At a door at rest: unchanged limits leave the door as it is; others put it
to rest by limits; in SEA mode with no run in progress the sea reclose rule then takes an open door that is neither a passage
nor held open (R8, R19, R30, R36). A door that waits, and is shown where it waits to go, drops its wait and is there; other
limits leave it (R9, R19, R61). A hand pump that comes into use takes the door out of any motion or wait, gives back what it
has, clears its passage and rests it by limits; one put away rests it by limits again (R9, R20, R21). What settles a door that
a running step waits for completes it (R103, R105). -/
def Obligations.ReportAtRest : Prop :=
  ∀ (s : State) (i : DoorIx) (bytes : List Byte) (r : DoorReport),
    let d := s.doors[i]
    let rest : DoorState := if r.closedLimit = true then .closed else if r.openLimit = true then .opened else .stopped
    let heard : DoorRuntime := { d with sideA := r.sideA, sideB := r.sideB }
    let delay := s.recloseTime i
    let closing := d.state = .warning ∨ d.state = .recloseWait ∨ (d.state = .queued ∧ d.queuedDir = .close)
    let opening := d.state = .queued ∧ d.queuedDir = .open
    let left : DoorRuntime → State := fun x => ((s.heard i r).giveBack i).setDoor i x
    let reports : State → Prop := fun t => exec (.doorReportArrival i bytes) s = .next t
    s.Receives i bytes r → s.doorLines[i].ctl.line ≠ .lost → r.unitFault = .none →
      (r.closedLimit = false ∨ r.openLimit = false) → resolve r.sideA r.sideB = resolve d.sideA d.sideB →
        (d.AtRest → d.manual = false → r.handPump = false → s.NoStepRuns →
          (s.mode = .working → rest = d.state → reports ((s.heard i r).setDoor i heard))
          ∧ (s.mode = .working → rest ≠ d.state →
            reports ((s.heard i r).setDoor i { heard with
              state := rest, seaOpenHeld := if rest = .closed then false else d.seaOpenHeld, changed := true }))
          ∧ (s.mode = .sea → s.plan.engine.inRun = false → rest ≠ .closed → d.passage = false →
              d.seaOpenHeld = false → 0 < delay →
            reports ((s.heard i r).setDoor i
              { heard with state := .recloseWait, timer := some delay, origin := .reclose, changed := true })))
        ∧ (d.manual = false → r.handPump = false →
          (closing → r.closedLimit = true → s.NobodyGains i →
            let u := left (d.restedAt r .closed)
            (s.Unawaited i → reports u) ∧ s.SettlesBy (.doorReportArrival i bytes) u i .closed)
          ∧ (opening → r.openLimit = true → s.NobodyGains i → s.mode = .working ∨ d.passage = true ∨ d.seaOpenHeld = true →
            reports (left (d.restedAt r .opened)))
          ∧ (closing ∨ opening → d.KeptBy r → reports ((s.heard i r).setDoor i heard)))
        ∧ (d.manual = false → r.handPump = true → d.state ≠ .absent → d.state ≠ .fault → d.state ≠ .unknown →
            s.NobodyGains i →
            let u := left { d.restedAt r rest with manual := true, passage := false }
            (s.Unawaited i → reports u)
            ∧ (rest = .closed → d.state ≠ .closed → s.SettlesBy (.doorReportArrival i bytes) u i .closed)
            ∧ (rest ≠ .closed → s.SettlesBy (.doorReportArrival i bytes) u i .notClosed))
        ∧ (d.manual = true → r.handPump = false → d.AtRest → s.NoStepRuns →
          (s.mode = .working ∨ rest = .closed →
            reports ((s.heard i r).setDoor i { d.restedAt r rest with manual := false }))
          ∧ (s.mode = .sea → s.plan.engine.inRun = false → rest ≠ .closed → d.passage = false →
              d.seaOpenHeld = false → 0 < delay →
            reports ((s.heard i r).setDoor i
              { heard with
                manual := false, state := .recloseWait, timer := some delay, origin := .reclose, changed := true })))
        ∧ (d.manual = true → r.handPump = true → d.AtRest → s.NoStepRuns →
          reports ((s.heard i r).setDoor i
            (if rest = d.state then heard else d.restedAt r rest)))

/-- A good report at an UNKNOWN door in WORKING mode is a recovery: the held load is released, the deadline stops, the door
rests by limits, and its side controls are stored without a press or release (R24, R36, R147). -/
def Obligations.ReportRecovers : Prop :=
  ∀ (s : State) (i : DoorIx) (bytes : List Byte) (r : DoorReport),
    let d := s.doors[i]
    let rest : DoorState := if r.closedLimit = true then .closed else if r.openLimit = true then .opened else .stopped
    s.Receives i bytes r → d.state = .unknown → d.manual = r.handPump → r.unitFault = .none →
      (r.closedLimit = false ∨ r.openLimit = false) → s.mode = .working → s.NoStepRuns → s.NobodyWaitsFor d →
        exec (.doorReportArrival i bytes) s =
          .next (((s.heard i r).unload d).setDoor i
            { d with
              sideA := r.sideA, sideB := r.sideB, state := rest
              heldLoad := none
              deadline := { d.deadline with running := false }
              seaOpenHeld := if rest = .closed then false else d.seaOpenHeld
              changed := true })

/-- Conflicting limits put a door into FAULT(LIMITS) and, without them, a unit fault into FAULT(UNIT), whatever it was
doing: its timer or its counters stop, its load is released or its claim leaves its queue, its passage clears and the latch
is set; the sea-open held flag is kept. A door that a running step waits for settles not closed, and the step's last one
completes it (R9, R16 to R18, R61, R103, R105). -/
def Obligations.ReportFaults : Prop :=
  ∀ (s : State) (i : DoorIx) (bytes : List Byte) (r : DoorReport),
    let d := s.doors[i]
    let moving := d.state = .closing ∨ d.state = .opening
    let conflict := r.closedLimit = true ∧ r.openLimit = true
    let faulted : State := ((s.heard i r).giveBack i).setDoor i
      { d with
        manual := r.handPump, sideA := r.sideA, sideB := r.sideB
        state := .fault
        faultCause := if conflict then .limits else .unit
        faultLatched := true
        passage := false
        timer := if d.state = .warning ∨ d.state = .recloseWait then none else d.timer
        deadline := if moving then { d.deadline with running := false } else d.deadline
        travel := if moving then { d.travel with running := false } else d.travel
        heldLoad := if moving then none else d.heldLoad
        changed := true }
    s.Receives i bytes r → (d.AtRest ∨ d.state = .warning ∨ d.state = .recloseWait ∨ d.state = .queued ∨ moving) →
      (conflict ∨ r.unitFault ≠ .none) → s.NobodyGains i →
        (s.NoStepRuns → exec (.doorReportArrival i bytes) s = .next faulted)
        ∧ s.SettlesBy (.doorReportArrival i bytes) faulted i .notClosed

/-- A completing limit report: the travel timer is captured up to 4095, slow is judged against E, both counters stop, the
load is released, and the door is CLOSED with its sea-open held flag clear, or OPEN (R14, R67, R86). The released load has the
queue re-examined, and a waiting head that then fits is admitted (R63, R64). A door that a running step waits for settles
closed, and the step's last one completes it (R103, R105). In SEA mode a door that is a passage or held open stays OPEN, and
the sea reclose rule takes any other with no run in progress (R30, R32). -/
def Obligations.ReportCompletesTravel : Prop :=
  ∀ (s : State) (i : DoorIx) (bytes : List Byte) (r : DoorReport),
    let d := s.doors[i]
    let done : DoorRuntime :=
      { d with
        sideA := r.sideA, sideB := r.sideB
        deadline := { d.deadline with running := false }
        travel := { d.travel with running := false }
        slow := decide (d.expected < d.travel.value)
        heldLoad := none
        changed := true }
    let closed : State := ((s.heard i r).unload d).setDoor i
      { done with state := .closed, seaOpenHeld := false, lastClose := min 4095 d.travel.value }
    let opened : State := ((s.heard i r).unload d).setDoor i
      { done with state := .opened, lastOpen := min 4095 d.travel.value }
    s.Receives i bytes r → d.manual = false → r.handPump = false → r.unitFault = .none →
      resolve r.sideA r.sideB = resolve d.sideA d.sideB →
        (d.state = .closing → r.closedLimit = true → r.openLimit = false →
          (s.Unawaited i → s.NobodyWaitsFor d → exec (.doorReportArrival i bytes) s = .next closed)
          ∧ (s.NoStepRuns → ∀ (g : GroupIx) (units : Nat) (c : Claim) (rest : List Claim),
              d.heldLoad = some (g, units) → c.door ≠ i → closed.AdmitsOne g c rest →
                exec (.doorReportArrival i bytes) s = .next (closed.admitted g c rest))
          ∧ (s.NobodyWaitsFor d → s.SettlesBy (.doorReportArrival i bytes) closed i .closed))
        ∧ (d.state = .opening → r.openLimit = true → r.closedLimit = false →
            s.mode = .working ∨ d.passage = true ∨ d.seaOpenHeld = true →
          (s.NobodyWaitsFor d → exec (.doorReportArrival i bytes) s = .next opened)
          ∧ (s.NoStepRuns → ∀ (g : GroupIx) (units : Nat) (c : Claim) (rest : List Claim),
              d.heldLoad = some (g, units) → c.door ≠ i → opened.AdmitsOne g c rest →
                exec (.doorReportArrival i bytes) s = .next (opened.admitted g c rest)))
        ∧ (d.state = .opening → r.openLimit = true → r.closedLimit = false → s.mode = .sea →
            s.plan.engine.inRun = false → d.passage = false → d.seaOpenHeld = false → 0 < s.recloseTime i →
            s.NobodyWaitsFor d →
          exec (.doorReportArrival i bytes) s =
            .next (opened.setDoor i
              { done with
                state := .recloseWait, timer := some (s.recloseTime i), origin := .reclose
                lastOpen := min 4095 d.travel.value }))

/-- A press of OPEN at a CLOSED door, in either mode: refused with the local refused flag when the door is inhibited; else
the door is QUEUED(open) with origin LOCAL, a passage in SEA mode, and its claim joins the tail of the opening class behind
a head that does not fit (R36, R39, R43, R52, R59, R60, R65). A press of CLOSE, in either mode and whatever the inhibit: a door
that stands, waits to reclose, moves or waits to open gives back its load or its claim and is QUEUED(close) with origin LOCAL
and no warning; one CLOSED or already closing only loses its sea-open held flag (R9, R11, R40, R45). -/
def Obligations.LocalOpenRequest : Prop :=
  ∀ (s : State) (i : DoorIx) (bytes : List Byte) (r : DoorReport),
    let d := s.doors[i]
    let g := s.tables.doors[i].group
    let queue := s.groups[g].queue ++ [{ door := i, dir := .open }]
    let heard : DoorRuntime := { d with sideA := r.sideA, sideB := r.sideB }
    let opening := d.state = .opening ∨ (d.state = .queued ∧ d.queuedDir = .open)
    let freed := (s.heard i r).giveBack i
    let closing := freed.groups[g].queue
    let joined := closing.takeWhile (fun c => c.dir = .close) ++ { door := i, dir := .close }
      :: closing.dropWhile (fun c => c.dir = .close)
    s.Receives i bytes r → s.doorLines[i].ctl.line ≠ .lost → d.manual = false → r.handPump = false →
      r.unitFault = .none → resolve d.sideA d.sideB = .none →
        (d.state = .closed → r.closedLimit = true → r.openLimit = false → resolve r.sideA r.sideB = .open →
          (d.inhibited = true →
            exec (.doorReportArrival i bytes) s =
              .next ((s.heard i r).setDoor i
                { heard with localRefused := true, changed := d.changed || !d.localRefused }))
          ∧ (d.inhibited = false → (∀ c : Claim, queue.head? = some c → s.fits g c = false) →
            exec (.doorReportArrival i bytes) s =
              .next (((s.heard i r).setDoor i
                  { heard with
                    state := .queued, queuedDir := .open, origin := .localCtl
                    passage := d.passage || decide (s.mode = .sea), changed := true }).setGroup g
                { s.groups[g] with queue := queue })))
        ∧ (d.KeptBy r → (r.closedLimit = false ∨ r.openLimit = false) → d.passage = false →
            resolve r.sideA r.sideB = .close →
          (d.state = .opened ∨ d.state = .stopped ∨ d.state = .recloseWait ∨ opening →
            (d.state = .opening → s.NobodyWaitsFor d) →
            (∀ c : Claim, joined.head? = some c → freed.fits g c = false) →
            exec (.doorReportArrival i bytes) s =
              .next ((freed.setDoor i
                { d.ended r with
                  state := .queued, queuedDir := .close, origin := .localCtl, seaOpenHeld := false }).setGroup g
                { freed.groups[g] with queue := joined }))
          ∧ (d.state = .closed ∨ d.state = .warning ∨ d.state = .closing ∨ (d.state = .queued ∧ d.queuedDir = .close) →
            exec (.doorReportArrival i bytes) s =
              .next ((s.heard i r).setDoor i
                { heard with seaOpenHeld := false, changed := d.changed || d.seaOpenHeld })))
    ∧ ∀ a b : Level,
        (resolve a b = .open ↔ a = .open ∨ b = .open)
        ∧ (resolve a b = .close ↔ a ≠ .open ∧ b ≠ .open ∧ (a = .close ∨ b = .close))

/-- The release of a passage in SEA mode: an OPENING door stops and releases its load, an OPEN one stays; the passage
clears and the door waits for its reclose delay with origin RECLOSE (R44, R46). A release in WORKING mode: a HOLD door whose
local motion, running or queued, is in the released direction is withdrawn and rests by limits; in every other situation the
release does nothing (R9, R10, R38, R41, R61). -/
def Obligations.PassageReleased : Prop :=
  ∀ (s : State) (i : DoorIx) (bytes : List Byte) (r : DoorReport),
    let d := s.doors[i]
    let moving := d.state = .opening
    let delay := s.recloseTime i
    let rest : DoorState := if r.closedLimit = true then .closed else if r.openLimit = true then .opened else .stopped
    let released := resolve d.sideA d.sideB
    let opens := d.state = .opening ∨ (d.state = .queued ∧ d.queuedDir = .open)
    let closes := d.state = .closing ∨ (d.state = .queued ∧ d.queuedDir = .close)
    let mine := s.tables.doors[i].localMode = .hold ∧ d.origin = .localCtl
      ∧ (released = .open ∧ opens ∨ released = .close ∧ closes)
    s.Receives i bytes r → d.manual = false → r.handPump = false → r.unitFault = .none →
      released ≠ .none → resolve r.sideA r.sideB = .none →
        (s.mode = .sea → d.passage = true → r.closedLimit = false →
          (d.state = .opened ∧ r.openLimit = true ∨ moving ∧ r.openLimit = false) → released = .open → 0 < delay →
          (moving → s.NobodyWaitsFor d) →
          exec (.doorReportArrival i bytes) s =
            .next ((if moving then (s.heard i r).unload d else s.heard i r).setDoor i
              { d with
                sideA := r.sideA, sideB := r.sideB
                state := .recloseWait, timer := some delay, origin := .reclose, passage := false
                deadline := if moving then { d.deadline with running := false } else d.deadline
                travel := if moving then { d.travel with running := false } else d.travel
                heldLoad := if moving then none else d.heldLoad
                changed := true }))
        ∧ (s.mode = .working → s.doorLines[i].ctl.line ≠ .lost → d.KeptBy r →
            (r.closedLimit = false ∨ r.openLimit = false) →
          (mine → s.NobodyGains i → s.Unawaited i →
            exec (.doorReportArrival i bytes) s =
              .next (((s.heard i r).giveBack i).setDoor i (d.restedAt r rest)))
          ∧ (¬ mine → d.AtRest ∨ d.state = .warning ∨ opens ∨ closes →
            exec (.doorReportArrival i bytes) s =
              .next ((s.heard i r).setDoor i { d with sideA := r.sideA, sideB := r.sideB })))

/-! ## Expiries (chapters 1, 3, 4, 5 and 6) -/

/-- Warnings of one group that end together: each door is QUEUED(close), its origin kept, and the claims join the closing
class in ascending door index, ahead of every opening claim; the head does not fit, so nothing is admitted (R12, R58, R59,
R62, R65). -/
def Obligations.WarningsEndTogether : Prop :=
  ∀ (s : State) (set : DoorSet) (g : GroupIx),
    let ends : DoorIx → Bool := fun i =>
      inSet set i && decide (s.doors[i].state = .warning) && decide (s.doors[i].timer = some 0)
    let claims : List Claim := (allDoors.filter ends).map (fun i => { door := i, dir := .close })
    let queue := s.groups[g].queue
    (∀ i : DoorIx, ends i = true → s.tables.doors[i].group = g) →
      (∀ i : DoorIx, s.capacity g .close < s.groups[g].inUse + s.tables.doors[i].load) →
      exec (.warningExpiry set) s =
        .next { s with
          doors := Vector.ofFn (fun i : DoorIx =>
            if ends i then
              { s.doors[i] with state := .queued, queuedDir := .close, timer := none, changed := true }
            else s.doors[i])
          groups := upd s.groups g { s.groups[g] with
            queue :=
              queue.takeWhile (fun c => c.dir = .close) ++ claims ++ queue.dropWhile (fun c => c.dir = .close) } }

/-- A warning that ends with an empty queue and a load that fits: the door is admitted at once, with the load recorded,
E = N × Tf × Hf / 65536 rounded up, the deadline E + margin up to 4095, and the travel timer at 0 (R12, R13, R57, R62, R63,
R83, R84). Hf is that of R81 and R82. A step with the wait ADMITTED settles the door closed, and its last one completes it
(R103, R105). -/
def Obligations.WarningEndsAdmitted : Prop :=
  (∀ (s : State) (i : DoorIx),
    let d := s.doors[i]
    let r := s.tables.doors[i]
    let g := r.group
    let hf := motionFactor r s.tables.groups[g] .close s.heldHeel
    let e := (r.closeNominal * s.groups[g].tf * hf + 65535) / 65536
    let admitted : State := (s.setDoor i
      { d with
        state := .closing, queuedDir := .close, timer := none
        heldLoad := some (g, r.load)
        expected := e
        deadline := { running := true, value := min 4095 (e + r.margin) }
        travel := { running := true, value := 0 }
        changed := true }).setGroup g
      { s.groups[g] with inUse := s.groups[g].inUse + r.load }
    let settlesAdmitted := ∃ (k : StepIx) (b : BankIx), s.plan.engine = .running k ∧ s.plan.runningBank = some b
      ∧ s.tables.banks[b].steps[k].wait = .admitted
    d.state = .warning → d.timer = some 0 → s.groups[g].queue = [] →
      s.groups[g].inUse + r.load ≤ s.capacity g .close →
        (¬ settlesAdmitted ∨ s.Unawaited i → exec (.warningExpiry (doorBit i)) s = .next admitted)
        ∧ (settlesAdmitted → s.SettlesBy (.warningExpiry (doorBit i)) admitted i .closed))
  ∧ HeelFactorRows ∧ CapacityRows

/-- Reclose delays that end together: each door gets a close order of origin RECLOSE and enters WARNING for its pre-warning
time (R11, R31). -/
def Obligations.RecloseDelaysEnd : Prop :=
  ∀ (s : State) (set : DoorSet),
    let ends : DoorIx → Bool := fun i =>
      inSet set i && decide (s.doors[i].state = .recloseWait) && decide (s.doors[i].timer = some 0)
    (∀ i : DoorIx, ends i = true →
        0 < s.preWarningTime i ∧ s.doors[i].passage = false ∧ s.doors[i].manual = false) →
      exec (.recloseExpiry set) s =
        .next { s with
          doors := Vector.ofFn (fun i : DoorIx =>
            if ends i then
              { s.doors[i] with
                state := .warning, timer := some (s.preWarningTime i), origin := .reclose, seaOpenHeld := false
                changed := true }
            else s.doors[i]) }

/-- A deadline that reaches 0: a moving door enters FAULT with its overtime cause, the latch set, its passage clear and its
load released, and no travel time is captured; an UNKNOWN door only loses its held load (R15, R23, R67, R87). -/
def Obligations.DeadlineReached : Prop :=
  ∀ (s : State) (i : DoorIx),
    let d := s.doors[i]
    d.deadline = { running := true, value := 0 } → s.NobodyWaitsFor d →
      (d.state = .closing ∨ d.state = .opening → s.NoStepRuns →
        exec (.deadlineExpiry (doorBit i)) s =
          .next ((s.unload d).setDoor i
            { d with
              state := .fault
              faultCause := if d.state = .closing then .closeOvertime else .openOvertime
              faultLatched := true
              passage := false
              deadline := { running := false, value := 0 }
              travel := { d.travel with running := false }
              heldLoad := none
              changed := true }))
      ∧ (d.state = .unknown →
        exec (.deadlineExpiry (doorBit i)) s =
          .next ((s.unload d).setDoor i { d with deadline := { running := false, value := 0 }, heldLoad := none }))

/-- The lamp beat toggles and restarts from the settings (R7); a compensation period recomputes Tf from the held
temperature, T_ref and the coefficient, clamped to 1023, and restarts (R78, R79); a transfer timer clears the transfer with
TIMEOUT to its requester (R133). -/
def Obligations.SectionTimersEnd : Prop :=
  ∀ s : State,
    (s.beatTimer = some 0 → exec .beatTimerExpiry s =
      .next { s with beatOn := !s.beatOn, beatTimer := some s.tables.settings.beatHalf })
    ∧ (∀ (g : GroupIx) (tf : Nat), s.groups[g].period = some 0 →
        (s.groups[g].heldTemp = none → tf = 256) →
        (∀ t : Int, s.groups[g].heldTemp = some t →
          let r := s.tables.groups[g]
          (r.tRef ≤ t → tf = 256)
          ∧ (∀ cold : Nat, (r.tRef : Int) - t = cold → 0 < cold →
              tf = min 1023 (256 + r.coefficient * cold * cold / 256))) →
        exec (.compensationExpiry g) s =
          .next (s.setGroup g { s.groups[g] with tf := tf, period := some 100 }))
    ∧ (∀ n : Slot, s.transfer = some { requester := n, timer := 0 } →
        exec .transferTimerExpiry s =
          .next (State.answer { s with transfer := none } n (OrderTag.authRequest false) .timeout))

/-- A step timer that reaches 0: OVERRUN is set and the next link followed: END or an invalid step ends the run DONE, with
LINK-FAULT for an invalid step of a strict bank or at the sixteenth visit; a valid step is entered, its doors handled, its
marks set and its timer loaded (R95, R100 to R102, R104 to R106). -/
def Obligations.StepOverruns : Prop :=
  ∀ (s : State) (k : StepIx) (b : BankIx),
    let overrun : State :=
      { s with plan := { s.plan with
        stepTimer := .stopped, marks := Vector.replicate 24 none, result := { s.plan.result with overrun := true } } }
    s.plan.engine = .running k → s.plan.runningBank = some b → s.plan.stepTimer = .running 0 → s.pendingLaunch = none →
      ∃ t : State, exec .stepTimerExpiry s = .next t ∧ t.outside = s.outside ∧ overrun.Links b k t
        ∧ t.plan.result.overrun = true

/-- An expiry or a completion whose timer is not at its end, or whose operation is not in flight, changes nothing. The
model's choice (log entry 10): the manual names these events only where they occur. -/
def Obligations.NothingDue : Prop :=
  ∀ (s : State) (set : DoorSet),
    ((∀ i : DoorIx, inSet set i = true → s.doors[i].state ≠ .warning ∨ s.doors[i].timer ≠ some 0) →
      exec (.warningExpiry set) s = .next s)
    ∧ ((∀ i : DoorIx, inSet set i = true → s.doors[i].state ≠ .recloseWait ∨ s.doors[i].timer ≠ some 0) →
      exec (.recloseExpiry set) s = .next s)
    ∧ ((∀ i : DoorIx, inSet set i = true → s.doors[i].deadline.running = false ∨ s.doors[i].deadline.value ≠ 0) →
      exec (.deadlineExpiry set) s = .next s)
    ∧ (s.beatTimer ≠ some 0 → exec .beatTimerExpiry s = .next s)
    ∧ (∀ g : GroupIx, s.groups[g].period ≠ some 0 → exec (.compensationExpiry g) s = .next s)
    ∧ (s.NoStepRuns ∨ s.plan.stepTimer ≠ .running 0 → exec .stepTimerExpiry s = .next s)
    ∧ ((∀ n : Slot, s.transfer ≠ some { requester := n, timer := 0 }) → exec .transferTimerExpiry s = .next s)
    ∧ (∀ report : SaveReport, s.storeEngine ≠ .saving →
        exec (.saveComplete report) s = .next s ∧ exec .saveTimeout s = .next s)
    ∧ (∀ image : List Byte, s.storeEngine ≠ .loading →
        exec (.loadStoreComplete image) s = .next s ∧ exec .loadStoreTimeout s = .next s)
    ∧ (∀ image : List Byte, s.phase ≠ .loading →
        exec (.startupLoadComplete image) s = .next s ∧ exec .startupLoadTimeout s = .next s)
    ∧ (s.storeTimer ≠ some 0 →
        exec .saveTimeout s = .next s ∧ exec .loadStoreTimeout s = .next s ∧ exec .startupLoadTimeout s = .next s)

/-! ## The store engine (R198 to R203) -/

/-- SAVE, LOAD-STORE and RESTART from a station with the manage right: SAVE-BUSY while the store engine works, and for
LOAD-STORE the staging area's refusals; else a SAVE copies the live tables, a LOAD-STORE begins its read, neither with a
result, and a RESTART is answered DONE and enters the restart wait (R199, R201, R203). -/
def Obligations.StoreOrdersTaken : Prop :=
  ∀ (s : State) (src : Byte) (n : Slot),
    let tag : Byte → OrderTag := fun sub => { kind := 0x0B#8, action := sub, door := 0xFF#8 }
    s.Hears src n → hasManage s.tables n = true →
      (s.storeEngine ≠ .idle →
        exec (.save src) s = .next (s.answer n (tag 1#8) .saveBusy)
        ∧ exec (.loadStore src) s = .next (s.answer n (tag 2#8) .saveBusy)
        ∧ exec (.restart src) s = .next (s.answer n (tag 4#8) .saveBusy))
      ∧ (s.storeEngine = .idle →
        exec (.save src) s = .next
          { s with
            storeEngine := .saving, storeTimer := some 40, saveImage := some s.tables, storeSender := some n }
        ∧ exec (.restart src) s = .next
          { s.answer n (tag 4#8) .done with
            phase := .restartWait (decide (s.ports.a.insertion.length < 4)) (decide (s.ports.b.insertion.length < 4)) }
        ∧ (s.staging = [] →
          exec (.loadStore src) s = .next
            { s with storeEngine := .loading, storeTimer := some 10, storeSender := some n })
        ∧ (s.staging ≠ [] → s.stagingOwner ≠ some n →
          exec (.loadStore src) s = .next (s.answer n (tag 2#8) .stagingOwned))
        ∧ (s.staging ≠ [] → s.stagingOwner = some n →
          exec (.loadStore src) s = .next (s.answer n (tag 2#8) .stagingBusy)))

/-- The end of a SAVE: OK and DONE when the image was written and its read-back matches the save image; WRITE-FAULT and
STORE-FAULT when the write failed, the read-back differs, or 40 tenths have passed. The engine is IDLE and the save image
none (R200). `storeTorn` is the model's mark of a SAVE cut short by a reset. -/
def Obligations.SavesEnd : Prop :=
  ∀ (s : State) (n : Slot) (image : Tables) (readBack : List Byte),
    let tag : OrderTag := { kind := 0x0B#8, action := 1#8, door := 0xFF#8 }
    let idle : SaveOutcome → State := fun o =>
      { s with
        storeEngine := .idle, storeTimer := none, saveImage := none, storeSender := none, lastSave := o
        storeTorn := false }
    s.storeEngine = .saving → s.storeSender = some n → s.saveImage = some image →
      (readBack = imageBytes image →
        exec (.saveComplete (.written readBack)) s = .next ((idle .ok).answer n tag .done))
      ∧ (readBack ≠ imageBytes image →
        exec (.saveComplete (.written readBack)) s = .next ((idle .writeFault).answer n tag .storeFault))
      ∧ exec (.saveComplete .failed) s = .next ((idle .writeFault).answer n tag .storeFault)
      ∧ (s.storeTimer = some 0 → exec .saveTimeout s = .next ((idle .writeFault).answer n tag .storeFault))

/-- The end of a LOAD-STORE: STORE-FAULT for an image that is not good or not read in time; a good image's records are
launched as NOW for the sender, who receives DONE: held without a further result while the plan runs or is suspended, else
applied, the authority check's results following the DONE (R134, R192, R195, R201). The mark `storeTorn`, by which an image torn by a reset (R200) counts as not good, is the
model's choice (log entry 5). -/
def Obligations.LoadsEnd : Prop :=
  ∀ (s : State) (n : Slot) (image : List Byte),
    let tag : OrderTag := { kind := 0x0B#8, action := 2#8, door := 0xFF#8 }
    let idle : State := { s with storeEngine := .idle, storeTimer := none, saveImage := none, storeSender := none }
    s.storeEngine = .loading → s.storeSender = some n →
      (goodImage image = none ∨ s.storeTorn = true →
        exec (.loadStoreComplete image) s = .next (idle.answer n tag .storeFault))
      ∧ (s.storeTimer = some 0 → exec .loadStoreTimeout s = .next (idle.answer n tag .storeFault))
      ∧ (∀ es : List Entry, goodImage image = some es → s.storeTorn = false →
          (∀ b : BankIx, s.plan.engine.inRun = true → s.plan.runningBank = some b →
            exec (.loadStoreComplete image) s = .next
              { State.answer { idle with staging := es, stagingOwner := some n } n tag .done with
                pendingLaunch := some { mode := .now, sender := n, silent := true } })
          ∧ (s.plan.engine.inRun = false →
            ∃ t : State, exec (.loadStoreComplete image) s = .next t
              ∧ t.tables = writeEntries s.tables es ∧ t.staging = [] ∧ t.stagingOwner = none ∧ t.pendingLaunch = none
              ∧ t.cursors = Cursors.zero ∧ t.storeEngine = .idle ∧ t.storeSender = none
              ∧ t.mode = s.mode ∧ t.lastSave = s.lastSave ∧ t.tablesFromStore = s.tablesFromStore
              ∧ s.AuthorityChecked (s.answer n tag .done) (writeEntries s.tables es) t))

/-! ## Orders and the inhibit scheme (R25 to R29, R50, R51, R115 to R118) -/

/-- What the order decoder turns away: an order that the node does not act on, or whose sender has no standing, has no
effect and no result (R116, R154, R158, R203); one whose sender lacks what it needs is refused by R118 with nothing else
changed (a TABLE-WRITE's form is checked before, R117). -/
def Obligations.OrdersTurnedAway : Prop :=
  ∀ (s : State) (c : Instr) (h : OrderHead), orderHead c = some h →
    ((∀ n : Slot, ¬ s.Hears h.src n) → exec c s = .next s)
    ∧ (∀ n : Slot, s.Hears h.src n →
        (∀ (t : TableId) (start count : Byte) (records : List Byte), c = .tableWrite h.src t start count records →
          records.length = recordsSize t (s.writeStart t start) count.toNat) →
        (h.need = .authority → s.holder ≠ some n → exec c s = .next (s.answer n h.tag .noAuthority))
        ∧ (h.need = .command → hasCommand s.tables n = false → exec c s = .next (s.answer n h.tag .noRight))
        ∧ (h.need = .manage → hasManage s.tables n = false → exec c s = .next (s.answer n h.tag .noRight)))

/-- A DOOR-ORDER refused after the rights check: an index of 24 or more with RANGE (R117, step 3), and the first condition
of R25 that holds. -/
def Obligations.DoorOrdersRefused : Prop :=
  ∀ (s : State) (src door : Byte) (n : Slot),
    let gives : Instr → Byte → OrderOutcome → Prop := fun c action o =>
      exec c s = .next (s.answer n { kind := 0x02#8, action := action, door := door } o)
    s.Hears src n → hasCommand s.tables n = true → s.holder = some n →
      (24 ≤ door.toNat →
        gives (.doorOrderClose src door) 1#8 .range ∧ gives (.doorOrderOpen src door) 2#8 .range
        ∧ gives (.doorOrderStop src door) 3#8 .range ∧ gives (.doorOrderAck src door) 4#8 .range
        ∧ gives (.doorOrderInhibit src door) 5#8 .range ∧ gives (.doorOrderRelease src door) 6#8 .range)
      ∧ (∀ i : DoorIx, door.toNat = i.val →
          let d := s.doors[i]
          (d.state = .absent →
            gives (.doorOrderClose src door) 1#8 .noDoor ∧ gives (.doorOrderOpen src door) 2#8 .noDoor
            ∧ gives (.doorOrderStop src door) 3#8 .noDoor ∧ gives (.doorOrderAck src door) 4#8 .noDoor)
          ∧ (d.state ≠ .absent → d.manual = true →
            gives (.doorOrderClose src door) 1#8 .manual ∧ gives (.doorOrderOpen src door) 2#8 .manual
            ∧ gives (.doorOrderStop src door) 3#8 .manual)
          ∧ (d.manual = false → d.state = .fault →
            gives (.doorOrderClose src door) 1#8 .faulted ∧ gives (.doorOrderOpen src door) 2#8 .faulted)
          ∧ (d.manual = false → d.state = .unknown →
            gives (.doorOrderClose src door) 1#8 .badState ∧ gives (.doorOrderOpen src door) 2#8 .badState
            ∧ gives (.doorOrderStop src door) 3#8 .badState))

/-- A remote CLOSE that passes R25, always answered DONE: no effect under an active passage; at a door CLOSED or already
closing only the sea-open held flag clears; a door that stands, moves or waits to open gives back its load or its claim and is
warned for its pre-warning time, or without one its claim joins the closing class (R9, R11, R26, R59 to R61). -/
def Obligations.CloseOrder : Prop :=
  ∀ (s : State) (src door : Byte) (n : Slot) (i : DoorIx),
    let d := s.doors[i]
    let g := s.tables.doors[i].group
    let freed := s.giveBack i
    let queue := freed.groups[g].queue
    let joined := queue.takeWhile (fun c => c.dir = .close) ++ { door := i, dir := .close }
      :: queue.dropWhile (fun c => c.dir = .close)
    let tag : OrderTag := { kind := 0x02#8, action := 1#8, door := door }
    let opening := d.state = .opening
    let takes := d.state = .opened ∨ d.state = .stopped ∨ d.state = .recloseWait ∨ opening
      ∨ (d.state = .queued ∧ d.queuedDir = .open)
    let ordered : DoorRuntime :=
      { d with
        origin := .remote, seaOpenHeld := false
        deadline := if opening then { d.deadline with running := false } else d.deadline
        travel := if opening then { d.travel with running := false } else d.travel
        heldLoad := if opening then none else d.heldLoad
        changed := true }
    s.Hears src n → door.toNat = i.val → d.manual = false → d.state ≠ .absent → d.state ≠ .fault →
      d.state ≠ .unknown →
      (d.passage = true → exec (.doorOrderClose src door) s = .next (s.answer n tag .done))
      ∧ (d.passage = false →
          (d.state = .closed ∨ d.state = .warning ∨ d.state = .closing ∨ (d.state = .queued ∧ d.queuedDir = .close) →
            exec (.doorOrderClose src door) s =
              .next ((s.setDoor i { d with seaOpenHeld := false, changed := d.changed || d.seaOpenHeld }).answer n
                tag .done))
          ∧ (takes → 0 < s.preWarningTime i → s.NobodyGains i →
            exec (.doorOrderClose src door) s =
              .next ((freed.setDoor i
                { ordered with state := .warning, timer := some (s.preWarningTime i) }).answer n tag .done))
          ∧ (takes → s.preWarningTime i = 0 → (opening → s.NobodyWaitsFor d) →
            (∀ c : Claim, joined.head? = some c → freed.fits g c = false) →
            exec (.doorOrderClose src door) s =
              .next (((freed.setDoor i
                { ordered with
                  state := .queued, queuedDir := .close
                  timer := if d.state = .recloseWait then none else d.timer }).setGroup g
                { freed.groups[g] with queue := joined }).answer n tag .done)))

/-- A remote OPEN of the holder that passes R25: BAD-MODE in SEA mode at a door without permission; unchanged under an
active passage; at a door open or opening only the sea-open held flag is set in SEA mode; a door at rest not open, or
closing in any way, gives back its load or its claim and is QUEUED(open) with origin REMOTE behind a head that does not fit; a
door in RECLOSE-WAIT is put to rest by the limits of its held report and queued so when that gives STOPPED (R8, R9, R27, R32,
R59 to R61). -/
def Obligations.OpenOrder : Prop :=
  ∀ (s : State) (src door : Byte) (n : Slot) (i : DoorIx),
    let d := s.doors[i]
    let g := s.tables.doors[i].group
    let freed := s.giveBack i
    let queue := freed.groups[g].queue ++ [{ door := i, dir := .open }]
    let sea := decide (s.mode = .sea)
    let closing := d.state = .closing
    let tag : OrderTag := { kind := 0x02#8, action := 2#8, door := door }
    let queued : State := (freed.setDoor i
      { d with
        state := .queued, queuedDir := .open, origin := .remote
        seaOpenHeld := d.seaOpenHeld || sea
        timer := if d.state = .warning ∨ d.state = .recloseWait then none else d.timer
        deadline := if closing then { d.deadline with running := false } else d.deadline
        travel := if closing then { d.travel with running := false } else d.travel
        heldLoad := if closing then none else d.heldLoad
        changed := true }).setGroup g { freed.groups[g] with queue := queue }
    s.Hears src n → s.holder = some n → door.toNat = i.val → d.manual = false → d.state ≠ .absent →
      d.state ≠ .fault → d.state ≠ .unknown →
      (s.mode = .sea → s.tables.doors[i].seaOpen = false →
        exec (.doorOrderOpen src door) s = .next (s.answer n tag .badMode))
      ∧ (s.mode = .working ∨ s.tables.doors[i].seaOpen = true →
          (d.passage = true → exec (.doorOrderOpen src door) s = .next (s.answer n tag .done))
          ∧ (d.passage = false →
              (d.state = .opened ∨ d.state = .opening ∨ (d.state = .queued ∧ d.queuedDir = .open) →
                exec (.doorOrderOpen src door) s =
                  .next ((s.setDoor i
                    { d with
                      seaOpenHeld := d.seaOpenHeld || sea
                      changed := d.changed || (sea && !d.seaOpenHeld) }).answer n tag .done))
              ∧ (d.state = .closed ∨ d.state = .stopped ∨ d.state = .warning ∨ closing
                    ∨ (d.state = .queued ∧ d.queuedDir = .close) →
                (closing → s.NobodyWaitsFor d) → (∀ c : Claim, queue.head? = some c → freed.fits g c = false) →
                exec (.doorOrderOpen src door) s = .next (queued.answer n tag .done))
              ∧ (∀ r : DoorReport, d.state = .recloseWait → s.doorLines[i].held = some r → s.NoStepRuns →
                  (r.closedLimit = false → r.openLimit = false →
                    (∀ c : Claim, queue.head? = some c → freed.fits g c = false) →
                    exec (.doorOrderOpen src door) s = .next (queued.answer n tag .done))
                  ∧ (r.closedLimit = true → r.openLimit = false →
                    exec (.doorOrderOpen src door) s =
                      .next ((s.setDoor i
                        { d with state := .closed, timer := none, seaOpenHeld := sea, changed := true }).answer n tag
                        .done))
                  ∧ (r.closedLimit = false → r.openLimit = true →
                    exec (.doorOrderOpen src door) s =
                      .next ((s.setDoor i
                        { d with
                          state := .opened, timer := none, seaOpenHeld := d.seaOpenHeld || sea
                          changed := true }).answer n tag .done)))))

/-- A remote STOP that passes R25 is BAD-MODE in SEA mode; in WORKING mode it leaves a FAULT door and withdraws any other,
which gives back its load or its claim and rests by the limits of its held report (R10, R28, R61). A remote ACK clears the latch and the slow flag: at a FAULT door
whose fault still stands it is FAULTED, any other FAULT door rests by limits, and a door in any other state, UNKNOWN too, goes
on as it is (R29). -/
def Obligations.StopAndAckOrders : Prop :=
  ∀ (s : State) (src door : Byte) (n : Slot) (i : DoorIx) (r : DoorReport),
    let d := s.doors[i]
    let rest : DoorState := if r.closedLimit = true then .closed else if r.openLimit = true then .opened else .stopped
    let held : Bool := if rest = .closed then false else d.seaOpenHeld
    let moving := d.state = .closing ∨ d.state = .opening
    let stop : OrderTag := { kind := 0x02#8, action := 3#8, door := door }
    let ack : OrderTag := { kind := 0x02#8, action := 4#8, door := door }
    let stands := (d.faultCause = .limits ∧ r.closedLimit = true ∧ r.openLimit = true)
      ∨ (d.faultCause = .unit ∧ r.unitFault ≠ .none)
    s.Hears src n → door.toNat = i.val → d.state ≠ .absent →
      (s.holder = some n → d.manual = false → d.state ≠ .unknown →
        (s.mode = .sea → exec (.doorOrderStop src door) s = .next (s.answer n stop .badMode))
        ∧ (s.mode = .working → d.state = .fault →
            exec (.doorOrderStop src door) s = .next (s.answer n stop .done))
        ∧ (s.mode = .working → d.state ≠ .fault → s.doorLines[i].held = some r →
            (r.closedLimit = false ∨ r.openLimit = false) → s.NoStepRuns → s.NobodyGains i →
            exec (.doorOrderStop src door) s =
              .next (((s.giveBack i).setDoor i
                { d with
                  state := rest
                  seaOpenHeld := held
                  timer := if d.state = .warning ∨ d.state = .recloseWait then none else d.timer
                  deadline := if moving then { d.deadline with running := false } else d.deadline
                  travel := if moving then { d.travel with running := false } else d.travel
                  heldLoad := if moving then none else d.heldLoad
                  changed := d.changed || decide (rest ≠ d.state) || (held != d.seaOpenHeld) }).answer n stop
                .done)))
      ∧ (hasCommand s.tables n = true →
        (d.state ≠ .fault →
          exec (.doorOrderAck src door) s =
            .next ((s.setDoor i
              { d with
                faultLatched := false, slow := false
                changed := d.changed || d.faultLatched || d.slow }).answer n ack .done))
        ∧ (d.state = .fault → s.doorLines[i].held = some r →
            (stands → exec (.doorOrderAck src door) s = .next (s.answer n ack .faulted))
            ∧ (¬ stands → (r.closedLimit = false ∨ r.openLimit = false) → s.mode = .working → s.NoStepRuns →
              exec (.doorOrderAck src door) s =
                .next ((s.setDoor i
                  { d with
                    state := rest, faultLatched := false, slow := false, seaOpenHeld := held
                    changed := true }).answer n ack .done))))

/-- INHIBIT and RELEASE of the holder: BAD-SCHEME in the RANGE scheme, NO-DOOR at an ABSENT door, else the inhibit set
changes and every door's flag follows it (R47, R49, R50). FIX-SCHEME sets the fuse once, with every door inhibited
(R51). -/
def Obligations.InhibitScheme : Prop :=
  ∀ (s : State) (src : Byte) (n : Slot),
    let follows : DoorSet → State := fun set =>
      { s with
        inhibitSet := set
        schemeFuse := true
        doors := Vector.ofFn (fun j : DoorIx =>
          { s.doors[j] with
            inhibited := inSet set j
            changed := s.doors[j].changed || (inSet set j != s.doors[j].inhibited) }) }
    s.Hears src n →
      (∀ (door : Byte) (i : DoorIx), door.toNat = i.val → s.holder = some n →
        let inhibit : OrderTag := { kind := 0x02#8, action := 5#8, door := door }
        let release : OrderTag := { kind := 0x02#8, action := 6#8, door := door }
        (s.schemeFuse = false →
          exec (.doorOrderInhibit src door) s = .next (s.answer n inhibit .badScheme)
          ∧ exec (.doorOrderRelease src door) s = .next (s.answer n release .badScheme))
        ∧ (s.schemeFuse = true → s.doors[i].state = .absent →
          exec (.doorOrderInhibit src door) s = .next (s.answer n inhibit .noDoor)
          ∧ exec (.doorOrderRelease src door) s = .next (s.answer n release .noDoor))
        ∧ (s.schemeFuse = true → s.doors[i].state ≠ .absent →
          (inSet s.inhibitSet i = true →
            exec (.doorOrderInhibit src door) s = .next (s.answer n inhibit .done)
            ∧ exec (.doorOrderRelease src door) s =
              .next ((follows (s.inhibitSet &&& ~~~(doorBit i))).answer n release .done))
          ∧ (inSet s.inhibitSet i = false →
            exec (.doorOrderRelease src door) s = .next (s.answer n release .done)
            ∧ exec (.doorOrderInhibit src door) s =
              .next ((follows (s.inhibitSet ||| doorBit i)).answer n inhibit .done))))
      ∧ (hasManage s.tables n = true →
        let fix : OrderTag := { kind := 0x0B#8, action := 3#8, door := 0xFF#8 }
        (s.schemeFuse = true → exec (.fixScheme src) s = .next (s.answer n fix .done))
        ∧ (s.schemeFuse = false →
          exec (.fixScheme src) s = .next ((follows (BitVec.allOnes 24)).answer n fix .done)))

/-! ## Section mode and the closure plan (chapters 5 and 6) -/

/-- SET-MODE SEA and SET-MODE WORKING, always answered DONE: in the mode already they change nothing; else the mode changes,
every passage and sea-open held flag clears, a run starts on the active bank for SEA, and for WORKING a run in progress is
aborted. Every opening door is withdrawn for SEA, and for WORKING every door in RECLOSE-WAIT and every door that waits to close
with origin PLAN or with origin PLAN or RECLOSE, so that none is left (R98 to R102, R106, R110, R124, R126). With no opening to withdraw, the
entry of a first step that waits and the sea reclose rule after it are exact (R30). Outside the doors, the groups and the plan engine only the mode and the result change. -/
def Obligations.ModeOrders : Prop :=
  ∀ (s : State) (src : Byte) (n : Slot),
    let tag : Byte → OrderTag := fun sub => { kind := 0x03#8, action := sub, door := 0xFF#8 }
    s.Hears src n →
      (s.mode = .sea → exec (.setModeSea src) s = .next (s.answer n (tag 1#8) .done))
      ∧ (s.mode = .working → s.pendingLaunch = none →
          ∃ t : State, exec (.setModeSea src) s = .next t
            ∧ t.outside = (State.answer { s with mode := .sea } n (tag 1#8) .done).outside
            ∧ s.RunStarts t.plan
            ∧ (∀ i : DoorIx, t.doors[i].passage = false ∧ t.doors[i].seaOpenHeld = false)
            ∧ ((∀ g : GroupIx, s.QueueSound g) → ∀ i : DoorIx,
                t.doors[i].state ≠ .opening ∧ (t.doors[i].state = .queued → t.doors[i].queuedDir = .close)))
      ∧ (s.mode = .working → (∀ i : DoorIx, s.doors[i].state ≠ .opening
            ∧ (s.doors[i].state = .queued → s.doors[i].queuedDir = .close)) →
          ∀ k : StepIx, s.toSea.EntersFirst k →
            exec (.setModeSea src) s = .next ((s.toSea.runEntered k).answer n (tag 1#8) .done))
      ∧ (s.holder = some n →
          (s.mode = .working → exec (.setModeWorking src) s = .next (s.answer n (tag 2#8) .done))
          ∧ (s.mode = .sea → s.pendingLaunch = none →
              ∃ t : State, exec (.setModeWorking src) s = .next t
                ∧ t.outside = (State.answer { s with mode := .working } n (tag 2#8) .done).outside
                ∧ (s.plan.engine.inRun = false → t.plan = s.plan)
                ∧ (s.plan.engine.inRun = true →
                    t.plan = { s.plan with
                      engine := .idle, stepTimer := .stopped, marks := Vector.replicate 24 none
                      result := { s.plan.result with aborted := true } })
                ∧ (∀ i : DoorIx, t.doors[i].passage = false ∧ t.doors[i].seaOpenHeld = false)
                ∧ (∀ i : DoorIx, t.doors[i].state ≠ .recloseWait
                    ∧ (t.doors[i].origin = .plan ∨ t.doors[i].origin = .reclose →
                        t.doors[i].state ≠ .warning ∧ (t.doors[i].state = .queued → t.doors[i].queuedDir = .open)))))

/-- RERUN: BAD-MODE in WORKING mode, PLAN-RUNNING while a run is in progress; else a run starts on the active bank with a
clear result: an invalid header ends it DONE with LINK-FAULT, an invalid first step ends it DONE with LINK-FAULT in a strict
bank, and a valid one is entered, the visit count staying within 16 (R97 to R100, R106). A first step that is left waiting,
with every ordered door in WARNING: the marks, the counts, the step timer, each of its doors and then the doors that the sea
reclose rule takes are exact (R11, R30, R101, R102). -/
def Obligations.RerunOrder : Prop :=
  ∀ (s : State) (src : Byte) (n : Slot),
    let tag : OrderTag := { kind := 0x03#8, action := 3#8, door := 0xFF#8 }
    let b := s.tables.settings.activeBank
    let bank := s.tables.banks[b]
    let ended : Bool → PlanEngine := fun linkFault =>
      { engine := .done, runningBank := some b, currentStep := none, stepTimer := .stopped, visits := 0
        marks := Vector.replicate 24 none
        result := { notClosed := false, overrun := false, linkFault := linkFault, aborted := false, stepsVisited := 0,
                    doorsNotClosed := 0 } }
    s.Hears src n →
      (s.mode = .working → exec (.rerun src) s = .next (s.answer n tag .badMode))
      ∧ (s.mode = .sea → s.plan.engine.inRun = true → exec (.rerun src) s = .next (s.answer n tag .planRunning))
      ∧ (s.mode = .sea → s.plan.engine.inRun = false → s.pendingLaunch = none →
          ∃ t : State, exec (.rerun src) s = .next t ∧ t.outside = (s.answer n tag .done).outside
            ∧ (bank.header.valid = false → t.plan = ended true)
            ∧ (∀ k : StepIx, bank.header.valid = true → bank.header.firstStep = k.val → bank.steps[k].valid = false →
                t.plan = ended bank.header.strict)
            ∧ (∀ k : StepIx, bank.header.valid = true → bank.header.firstStep = k.val → bank.steps[k].valid = true →
                t.plan.runningBank = some b ∧ t.plan.result.stepsVisited = t.plan.visits ∧ 1 ≤ t.plan.visits
                ∧ t.plan.visits ≤ 16))
      ∧ (s.mode = .sea → s.plan.engine.inRun = false → ∀ k : StepIx, s.EntersFirst k →
          exec (.rerun src) s = .next ((s.runEntered k).answer n tag .done))

/-- SUSPEND, RESUME and SELECT-PLAN of the holder: their refusals; SUSPEND freezes the step timer at the time it has left and
leaves no door waiting under the plan (that a time of 0 freezes at 1 is the model's choice, log entry 12); SELECT-PLAN sets
the active bank (R93, R107). RESUME goes on with the step from the frozen time, its visits not raised, and handles each door
whose mark is unsettled by its state: it settles, closed or else counted as not closed; it stays as it is under an active
passage or already closing; or it receives its close order of origin PLAN again, here with a pre-warning time, an opening
door giving back its load or its claim. A step with no door left unsettled completes, and its link is followed (R9, R11, R61,
R101, R102, R105, R106, R109). -/
def Obligations.PlanOrders : Prop :=
  ∀ (s : State) (src bank : Byte) (n : Slot),
    let tag : Byte → OrderTag := fun sub => { kind := 0x03#8, action := sub, door := 0xFF#8 }
    s.Hears src n → s.holder = some n →
      ((∀ k : StepIx, s.plan.engine ≠ .running k) → exec (.suspend src) s = .next (s.answer n (tag 4#8) .notRunning))
      ∧ (∀ k : StepIx, s.plan.engine = .running k →
          ∃ t : State, exec (.suspend src) s = .next t ∧ t.outside = (s.answer n (tag 4#8) .done).outside
            ∧ t.plan = { s.plan with
                engine := .suspended k
                stepTimer := match s.plan.stepTimer with
                  | .running left => .frozen (if left = 0 then 1 else left)
                  | .frozen left => .frozen left
                  | .stopped => .stopped }
            ∧ (∀ i : DoorIx, (t.doors[i]).planWaiting = false))
      ∧ ((∀ k : StepIx, s.plan.engine ≠ .suspended k) →
          exec (.resume src) s = .next (s.answer n (tag 5#8) .notSuspended))
      ∧ (∀ k : StepIx, s.plan.engine = .suspended k →
          let wait : WaitKind := (s.plan.runningBank.map (fun b => s.tables.banks[b].steps[k].wait)).getD .closed
          let unsettled : DoorIx → Bool := fun i => decide (s.plan.marks[i] = some .unsettled)
          let settles : DoorIx → Option Mark := fun i =>
            let d := s.doors[i]
            if d.state = .closed ∨ (d.manual = false ∧ d.passage = false ∧ d.state = .closing ∧ wait = .admitted) then
              some .closed
            else if d.state = .absent ∨ d.state = .fault ∨ d.state = .unknown ∨ d.manual = true then some .notClosed
            else none
          let stays : DoorIx → Bool := fun i => unsettled i && (settles i).isNone
          let opens : DoorIx → Bool := fun i => !s.doors[i].passage
            && (s.doors[i].state = .opening || (s.doors[i].state = .queued && s.doors[i].queuedDir = .open))
          let stands : DoorIx → Bool := fun i => !s.doors[i].passage
            && (s.doors[i].state = .opened || s.doors[i].state = .stopped || s.doors[i].state = .recloseWait)
          let warned : DoorIx → DoorRuntime := fun i =>
            { s.doors[i] with
              state := .warning, timer := some (s.preWarningTime i), origin := .plan, seaOpenHeld := false
              changed := true }
          let counted := (allDoors.filter (fun i => unsettled i && decide (settles i = some .notClosed))).length
          let resumed : PlanEngine :=
            { s.plan with
              engine := .running k
              stepTimer := match s.plan.stepTimer with
                | .frozen left => .running left
                | .running left => .running left
                | .stopped => .stopped
              marks := Vector.ofFn (fun i : DoorIx =>
                if unsettled i then some ((settles i).getD .unsettled) else s.plan.marks[i])
              result := { s.plan.result with
                notClosed := s.plan.result.notClosed || decide (0 < counted)
                doorsNotClosed := s.plan.result.doorsNotClosed + counted } }
          let ended : Bool → PlanEngine := fun linkFault =>
            { resumed with
              engine := .done, stepTimer := .stopped, marks := Vector.replicate 24 none
              result := { resumed.result with linkFault := s.plan.result.linkFault || linkFault } }
          ((∃ i : DoorIx, stays i = true) → (∀ i : DoorIx, stays i = true → opens i = false) →
            (∀ i : DoorIx, stays i = true → stands i = true → 0 < s.preWarningTime i) →
            exec (.resume src) s =
              .next (State.answer
                { s with
                  plan := resumed
                  doors := Vector.ofFn (fun i : DoorIx => if stays i && stands i then warned i else s.doors[i]) } n
                (tag 5#8) .done))
          ∧ (∀ i : DoorIx, (∀ j : DoorIx, unsettled j = true ↔ j = i) → opens i = true → s.doors[i].manual = false →
              0 < s.preWarningTime i → s.NobodyGains i →
              let moving := s.doors[i].state = .opening
              exec (.resume src) s =
                .next (State.answer
                  { (s.giveBack i).setDoor i
                      { warned i with
                        deadline :=
                          if moving then { s.doors[i].deadline with running := false } else s.doors[i].deadline
                        travel := if moving then { s.doors[i].travel with running := false } else s.doors[i].travel
                        heldLoad := if moving then none else s.doors[i].heldLoad } with
                    plan := resumed } n (tag 5#8) .done))
          ∧ (∀ b : BankIx, (∀ i : DoorIx, stays i = false) → s.plan.runningBank = some b → s.pendingLaunch = none →
              let steps := s.tables.banks[b].steps
              ∃ t : State, exec (.resume src) s = .next t ∧ t.outside = (s.answer n (tag 5#8) .done).outside
                ∧ (steps[k].next = none → t.plan = ended false)
                ∧ (∀ j : StepIx, steps[k].next = some j → steps[j].valid = false →
                    t.plan = ended s.tables.banks[b].header.strict)
                ∧ (∀ j : StepIx, steps[k].next = some j → steps[j].valid = true → 16 ≤ s.plan.visits →
                    t.plan = ended true)
                ∧ (∀ j : StepIx, steps[k].next = some j → steps[j].valid = true → s.plan.visits < 16 →
                    s.EntryWaits steps[j] →
                    t = State.answer (State.stepEntered { s with plan := resumed } j steps[j]) n (tag 5#8) .done)
                ∧ (∀ j : StepIx, steps[k].next = some j → steps[j].valid = true → s.plan.visits < 16 →
                    s.plan.visits < t.plan.visits ∧ t.plan.visits ≤ 16)))
      ∧ (2 ≤ bank.toNat → exec (.selectPlan src bank) s = .next (s.answer n (tag 6#8) .range))
      ∧ (∀ b : BankIx, bank.toNat = b.val →
          (s.plan.engine.inRun = true → exec (.selectPlan src bank) s = .next (s.answer n (tag 6#8) .planRunning))
          ∧ (s.plan.engine.inRun = false → exec (.selectPlan src bank) s =
              .next (State.answer
                { s with tables := { s.tables with settings := { s.tables.settings with activeBank := b } } } n
                (tag 6#8) .done)))

/-! ## Authority (R129 to R132) -/

/-- AUTH-REQUEST of a station with command right: the rows of R129 without the forced flag, and of R130 with it. -/
def Obligations.AuthorityRequests : Prop :=
  ∀ (s : State) (src : Byte) (n : Slot),
    let tag : Byte → OrderTag := fun forced => { kind := 0x04#8, action := forced, door := 0xFF#8 }
    let held : State := { s with holder := some n }
    s.Hears src n → hasCommand s.tables n = true →
      (s.holder = none →
        exec (.authRequest src) s = .next (held.answer n (tag 0#8) .granted)
        ∧ exec (.authRequestForced src) s = .next (held.answer n (tag 1#8) .granted))
      ∧ (s.holder = some n →
        exec (.authRequest src) s = .next (s.answer n (tag 0#8) .granted)
        ∧ exec (.authRequestForced src) s = .next (s.answer n (tag 1#8) .granted))
      ∧ (∀ h : Slot, s.holder = some h → h ≠ n →
        (s.transfer = none →
          exec (.authRequest src) s =
            .next (State.answer
              { s with transfer := some { requester := n, timer := s.tables.settings.transferTimeout } } n (tag 0#8)
              .pending)
          ∧ exec (.authRequestForced src) s = .next (held.answer n (tag 1#8) .granted))
        ∧ (∀ left : Nat, s.transfer = some { requester := n, timer := left } →
          exec (.authRequest src) s = .next (s.answer n (tag 0#8) .pending)
          ∧ exec (.authRequestForced src) s =
            .next (State.answer { held with transfer := none } n (tag 1#8) .granted))
        ∧ (∀ (m : Slot) (left : Nat), m ≠ n → s.transfer = some { requester := m, timer := left } →
          exec (.authRequest src) s = .next (s.answer n (tag 0#8) .transferBusy)
          ∧ exec (.authRequestForced src) s =
            .next ((State.answer { held with transfer := none } m (tag 0#8) .superseded).answer n (tag 1#8) .granted)))

/-- AUTH-RELEASE and AUTH-DENY: the rows of R131 and R132, the later result to the requester placed after the sender's. -/
def Obligations.AuthorityReleaseAndDenial : Prop :=
  ∀ (s : State) (src : Byte) (n : Slot),
    let tag : Byte → OrderTag := fun kind => { kind := kind, action := 0#8, door := 0xFF#8 }
    s.Hears src n →
      (s.holder ≠ some n →
        exec (.authRelease src) s = .next (s.answer n (tag 0x05#8) .notHolder)
        ∧ exec (.authDeny src) s = .next (s.answer n (tag 0x06#8) .notHolder))
      ∧ (s.holder = some n → s.transfer = none →
        exec (.authRelease src) s = .next (State.answer { s with holder := none } n (tag 0x05#8) .done)
        ∧ exec (.authDeny src) s = .next (s.answer n (tag 0x06#8) .noPending))
      ∧ (∀ (m : Slot) (left : Nat), s.holder = some n → s.transfer = some { requester := m, timer := left } →
        exec (.authRelease src) s =
          .next ((State.answer { s with holder := some m, transfer := none } n (tag 0x05#8) .done).answer m
            (tag 0x04#8) .granted)
        ∧ exec (.authDeny src) s =
          .next ((State.answer { s with transfer := none } n (tag 0x06#8) .done).answer m (tag 0x04#8) .denied))

/-! ## Tables (R182, R183, R189 to R192, R195, R197) -/

/-- TABLE-WRITE: RANGE for records of another length than its start index and count give; then, for a station with the
manage right, the first check of R189 that fails; else the records are appended, the sender owns an area that was empty, and
the table's cursor moves past them (R117, R188 to R190, R205). -/
def Obligations.TableWriteOrder : Prop :=
  ∀ (s : State) (src start count : Byte) (t : TableId) (records : List Byte) (n : Slot),
    let tag : OrderTag := { kind := 0x07#8, action := 0#8, door := 0xFF#8 }
    let first := if start = 0xFF#8 then s.cursors.get t else start.toNat
    let formed := records.length = recordsSize t first count.toNat
    let gives : OrderOutcome → Prop := fun o =>
      exec (.tableWrite src t start count records) s = .next (s.answer n tag o)
    let owned := s.staging ≠ [] ∧ s.stagingOwner ≠ some n
    let busy := s.pendingLaunch ≠ none ∨ s.storeEngine = .loading
    let counted := 1 ≤ count.toNat ∧ count.toNat ≤ 8 ∧ first + count.toNat ≤ tableRecords t
    s.Hears src n →
      (¬ formed → gives .range)
      ∧ (formed → hasManage s.tables n = true →
        (owned → gives .stagingOwned)
        ∧ (¬ owned → busy → gives .stagingBusy)
        ∧ (¬ owned → ¬ busy → ¬ counted → gives .range)
        ∧ (¬ owned → ¬ busy → counted → entriesOfBytes t first count.toNat records = none → gives .range)
        ∧ (∀ es : List Entry, ¬ owned → ¬ busy → counted → entriesOfBytes t first count.toNat records = some es →
            (96 < s.staging.length + count.toNat → gives .stagingFull)
            ∧ (s.staging.length + count.toNat ≤ 96 →
              exec (.tableWrite src t start count records) s =
                .next (State.answer
                  { s with
                    staging := s.staging ++ es, stagingOwner := some n
                    cursors := s.cursors.put t (first + count.toNat) } n tag .done))))

/-- LAUNCH: the rows of R192 for both modes; applied at once, the live tables are those the staged records give in order,
the area, its owner, its cursors and the pending launch are clear, and DONE is placed for the sender (R190, R191, R195). When
the launch changed the station table, the authority check follows the DONE: a pending requester without command right is
REMOVED, a holder without it gives way to NONE or to the requester that remains, who is GRANTED the authority (R134). Of one
staged record, what its owner makes of it is exact: a door made absent or present, or rewritten (R33, R72), a group made absent
or present, or rewritten (R71, R77, R149), and a settings record (R47, R48). The cross-check is that of R191. -/
def Obligations.LaunchOrders : Prop :=
  ∀ (s : State) (src : Byte) (n : Slot),
    let now : OrderTag := { kind := 0x08#8, action := 1#8, door := 0xFF#8 }
    let atCycle : OrderTag := { kind := 0x08#8, action := 2#8, door := 0xFF#8 }
    let both : OrderOutcome → Prop := fun o =>
      exec (.launchNow src) s = .next (s.answer n now o) ∧ exec (.launchAtCycle src) s = .next (s.answer n atCycle o)
    let tables := writeEntries s.tables s.staging
    let check := crossCheck tables s.staging
    let keeps : Slot → Bool := fun m => decide (tables.stations = s.tables.stations) || hasCommand tables m
    let request : OrderTag := { kind := 0x04#8, action := 0#8, door := 0xFF#8 }
    let done := s.answer n now .done
    let held : LaunchMode → State := fun m =>
      { s with pendingLaunch := some { mode := m, sender := n, silent := false } }
    s.Hears src n → hasManage s.tables n = true →
      (s.staging = [] → both .nothingStaged)
      ∧ (s.staging ≠ [] → s.stagingOwner ≠ some n → both .stagingOwned)
      ∧ (s.staging ≠ [] → s.stagingOwner = some n → s.pendingLaunch ≠ none → both .stagingBusy)
      ∧ (s.staging ≠ [] → s.stagingOwner = some n → s.pendingLaunch = none →
          exec (.launchAtCycle src) s = .next ((held .atCycle).answer n atCycle .pending)
          ∧ (∀ (reason : CheckReason) (position : Option Nat), check = some (reason, position) →
              exec (.launchNow src) s = .next (s.placeResult (.orderResult
                { dest := n, cycle := s.lastCycle, kind := 0x08#8, action := 1#8, door := 0xFF#8,
                  outcome := .checkFailed, position := position, reason := some reason })))
          ∧ (check = none → s.stagingHeld = true →
              exec (.launchNow src) s = .next ((held .now).answer n now .pending))
          ∧ (check = none → s.stagingHeld = false →
              ∃ t : State, exec (.launchNow src) s = .next t
                ∧ t.tables = tables ∧ t.staging = [] ∧ t.stagingOwner = none
                ∧ t.cursors = Cursors.zero ∧ t.pendingLaunch = none ∧ t.mode = s.mode ∧ t.heldHeel = s.heldHeel
                ∧ t.inhibitSet = s.inhibitSet ∧ t.lastCycle = s.lastCycle ∧ t.storeEngine = s.storeEngine
                ∧ (s.transfer = none →
                    t.transfer = none ∧ t.holder = s.holder.filter keeps
                    ∧ t.ports = done.ports ∧ t.responseLost = done.responseLost)
                ∧ (∀ q : Transfer, s.transfer = some q → keeps q.requester = false →
                    t.transfer = none ∧ t.holder = s.holder.filter keeps
                    ∧ t.ports = (done.answer q.requester request .removed).ports
                    ∧ t.responseLost = (done.answer q.requester request .removed).responseLost)
                ∧ (∀ q : Transfer, s.transfer = some q → keeps q.requester = true → s.holder.filter keeps = s.holder →
                    t.transfer = some q ∧ t.holder = s.holder
                    ∧ t.ports = done.ports ∧ t.responseLost = done.responseLost)
                ∧ (∀ q : Transfer, s.transfer = some q → keeps q.requester = true → s.holder.filter keeps ≠ s.holder →
                    t.transfer = none ∧ t.holder = some q.requester
                    ∧ t.ports = (done.answer q.requester request .granted).ports
                    ∧ t.responseLost = (done.answer q.requester request .granted).responseLost))
          ∧ (check = none → s.stagingHeld = false →
              (∀ (i : DoorIx) (r : DoorRecord), s.staging = [.door i r] →
                (s.tables.doors[i].present = true → r.present = false → s.LaunchRemoves (.launchNow src) n tables i)
                ∧ (s.tables.doors[i].present = false → r.present = true → s.LaunchAdds (.launchNow src) n tables i)
                ∧ (s.tables.doors[i].present = true → r.present = true →
                    s.LaunchRewrites (.launchNow src) n tables i r))
              ∧ (∀ (g : GroupIx) (r : GroupRecord), s.staging = [.group g r] →
                  s.LaunchesGroup (.launchNow src) n tables g r)
              ∧ (∀ r : Settings, s.staging = [.settings r] → s.LaunchesSettings (.launchNow src) n tables r)))
      ∧ CrossChecks tables s.staging

/-- DISCARD, from any station with the manage right, clears the staging area, its owner, its cursors and the pending launch,
and is answered DONE (R197). TABLE-READ answers with the records of the live table, or RANGE (R182, R183). -/
def Obligations.DiscardAndTableRead : Prop :=
  ∀ (s : State) (src start count : Byte) (t : TableId) (n : Slot),
    let discard : OrderTag := { kind := 0x09#8, action := 0#8, door := 0xFF#8 }
    let read : OrderTag := { kind := 0x0A#8, action := 0#8, door := 0xFF#8 }
    let taken := 1 ≤ count.toNat ∧ count.toNat ≤ 8 ∧ start.toNat + count.toNat ≤ tableRecords t
    s.Hears src n → hasManage s.tables n = true →
      (s.staging = [] → exec (.discard src) s = .next (s.answer n discard .done))
      ∧ (s.staging ≠ [] → exec (.discard src) s =
          .next (State.answer
            { s with staging := [], stagingOwner := none, cursors := Cursors.zero, pendingLaunch := none } n discard
            .done))
      ∧ (¬ taken → exec (.tableRead src t start count) s = .next (s.answer n read .range))
      ∧ (taken → exec (.tableRead src t start count) s =
          .next (s.placeResult (.tableData
            { dest := n, cycle := s.lastCycle, table := t, start := start.toNat, count := count.toNat
              records := recordsBytes s.tables t start.toNat count.toNat })))

/-! ## Records and the store image (R198, R208) -/

/-- Each record in its range is read back from the bytes that R208 gives it, which have the record's size. -/
def Obligations.RecordsRoundTrip : Prop :=
  (∀ r : DoorRecord, r.InRange → doorOfBytes (doorBytes r) = some r ∧ (doorBytes r).length = 12)
  ∧ (∀ r : GroupRecord, r.InRange → groupOfBytes (groupBytes r) = some r ∧ (groupBytes r).length = 12)
  ∧ (∀ r : PlanHeader, r.firstStep ≤ 255 → headerOfBytes (headerBytes r) = some r ∧ (headerBytes r).length = 2)
  ∧ (∀ r : PlanStep, r.InRange → stepOfBytes (stepBytes r) = some r ∧ (stepBytes r).length = 7)
  ∧ (∀ r : StationRecord, stationOfBytes (stationBytes r) = some r ∧ (stationBytes r).length = 1)
  ∧ (∀ r : Settings, r.InRange → settingsOfBytes (settingsBytes r) = some r ∧ (settingsBytes r).length = 13)

/-- The store image of live tables in range has 590 bytes, is good, and gives back every one of their 71 records, whatever
tables it is applied to (R191, R198, R208). -/
def Obligations.StoreImageRoundTrip : Prop :=
  ∀ ts : Tables, ts.InRange →
    (imageBytes ts).length = 590
    ∧ ∃ es : List Entry, goodImage (imageBytes ts) = some es ∧ es.length = 71
        ∧ ∀ before : Tables, writeEntries before es = ts

/-! ## The whole node -/

/-- One step takes the command at the front of the queue, and nothing else; every command answers a next state. On an
empty queue the node takes the next of its own commands that is due, or lets one tenth pass: the model's choice (log entry
4). A tenth counts every running timer one on: the warning and reclose timers, deadlines, poll, compensation, beat, step,
transfer and store timers down, the travel and window timers up; what does not run stays (R1, R12, R31, R78, R85, R100, R108,
R139, R163). -/
def Obligations.StepTakesTheFront : Prop :=
  (∀ (c : Instr) (rest : List Instr) (s : State),
    step { s with pending := c :: rest } = exec c { s with pending := rest } ∧ ∃ t : State, exec c s = .next t)
  ∧ (∀ s : State, s.pending = [] →
      (∀ c : Instr, s.nextDue = some c → step s = exec c s) ∧ (s.nextDue = none → step s = .next s.tick))
  ∧ (∀ s : State,
      let down : Option Nat → Option Nat := fun timer => match timer with
        | some left => some (left - 1)
        | none => none
      let polled : LineControl → LineControl := fun x => { x with pollTimer := down x.pollTimer }
      let windowed : Port → Port := fun p => { p with sup := { p.sup with
        window := match p.sup.window with
          | some elapsed => some (elapsed + 1)
          | none => none } }
      s.tick = { s with
        doors := Vector.ofFn (fun i : DoorIx =>
          let d := s.doors[i]
          { d with
            timer := down d.timer
            deadline := if d.deadline.running = true then { d.deadline with value := d.deadline.value - 1 } else d.deadline
            travel := if d.travel.running = true then { d.travel with value := d.travel.value + 1 } else d.travel })
        doorLines := Vector.ofFn (fun i : DoorIx => { s.doorLines[i] with ctl := polled s.doorLines[i].ctl })
        groups := Vector.ofFn (fun g : GroupIx => { s.groups[g] with period := down s.groups[g].period })
        groupLines := Vector.ofFn (fun g : GroupIx => { s.groupLines[g] with ctl := polled s.groupLines[g].ctl })
        beatTimer := down s.beatTimer
        plan := { s.plan with stepTimer := match s.plan.stepTimer with
          | .running left => .running (left - 1)
          | .frozen left => .frozen left
          | .stopped => .stopped }
        transfer := match s.transfer with
          | some q => some { q with timer := q.timer - 1 }
          | none => none
        ports := { a := windowed s.ports.a, b := windowed s.ports.b }
        storeTimer := down s.storeTimer })

/-- No command touches the queue of waiting commands or clears the scheme fuse (R51); the held heel, the snapshot and the
last cycle number change only at a cycle start or a reset (R74, R172, R173); the section mode changes only at SET-MODE, at a
loop event that can isolate the node, and at a start-up load or reset (R123). -/
def Obligations.OnlyNamedCommandsChange : Prop :=
  ∀ (c : Instr) (s t : State), exec c s = .next t →
    t.pending = s.pending
    ∧ (s.schemeFuse = true → t.schemeFuse = true)
    ∧ (resets c = false → bringsCycleStart c = false →
        t.heldHeel = s.heldHeel ∧ t.snapshot = s.snapshot ∧ t.lastCycle = s.lastCycle)
    ∧ (resets c = false → bringsCycleStart c = false → (∀ l : LoopId, c ≠ .windowExpiry l) →
        (∀ src : Byte, c ≠ .setModeSea src ∧ c ≠ .setModeWorking src) →
        (∀ image : List Byte, c ≠ .startupLoadComplete image) → c ≠ .startupLoadTimeout → t.mode = s.mode)

/-- Every step keeps the ports within their limits (R155, R159, R161, R162) and every figure of travel timing in its range
(R74, R76, R79, R84, R86). -/
def Obligations.StepKeepsRanges : Prop :=
  ∀ s t : State, step s = .next t →
    (s.PortsWithinLimits → t.PortsWithinLimits) ∧ (s.TravelInRange → t.TravelInRange)

/-- Every step keeps the staging area as R187 to R190 leave it, the authority record as R128 gives it, and the contact state
as R163 and R169 give it. -/
def Obligations.StepKeepsRecords : Prop :=
  ∀ s t : State, step s = .next t →
    (s.StagingSound → t.StagingSound) ∧ (s.AuthoritySound → t.AuthoritySound) ∧ (s.ContactSound → t.ContactSound)

/-- Every step keeps each group's in-use the sum of the held loads against it and each queue matched to the QUEUED doors
(R58, R59, R66); and then, in SEA mode, no door opens or waits to open unless it is a passage or held open (R32). -/
def Obligations.StepKeepsLoads : Prop :=
  ∀ s t : State, step s = .next t → s.LoadsBalance →
    t.LoadsBalance ∧ (s.SeaOpeningsHeld → t.SeaOpeningsHeld)
end

