-- ==== Sys2Proof/Laws/Frame.lean ====
section
/-! SUPPORT. Frame.lean: what the operations of an event leave alone. `outside` blanks the doors, the groups and the plan
engine; an operation of the door machines, motion admission or the plan engine changes nothing outside them, and `x.outside
= s.outside` says so in one equation, from which every single field follows. `outsideLaunch` blanks in addition what the
application of a launch may write. -/

-- One declaration is checked after another, so that no worker threads pile up on a large machine.
set_option Elab.async false

namespace Sys2Proof.Machine

open Sys2Proof

theorem State.outsideLaunch_of_outside {s t : State} (h : t.outside = s.outside) :
    t.outsideLaunch = s.outsideLaunch := by
  unfold State.outsideLaunch; rw [h]

/-! ## Folds -/

/-- A fold of operations that each keep a measure of the work keeps it. -/
theorem Work.foldl_keeps {α β : Type} (m : Work → β) (f : Work → α → Work) (hf : ∀ w a, m (f w a) = m w) :
    ∀ (l : List α) (w : Work), m (l.foldl f w) = m w := by
  intro l
  induction l with
  | nil => intro w; rfl
  | cons a l ih => intro w; rw [List.foldl_cons, ih, hf]

/-! ## Ops.lean -/

section
variable (w : Work) (i : DoorIx) (g : GroupIx)

@[simp] theorem Work.touch_st : (w.touch g).st = w.st := rfl
@[simp] theorem Work.dueReclose_st : (w.dueReclose i).st = w.st := rfl
@[simp] theorem Work.dueAll_st : w.dueAll.st = w.st := rfl

@[simp] theorem Work.setGroup_outside (r : GroupRuntime) : (w.setGroup g r).st.outside = w.st.outside := rfl
@[simp] theorem Work.setQueue_outside (q : List Claim) : (w.setQueue g q).st.outside = w.st.outside := rfl
@[simp] theorem Work.setPlan_outside (p : PlanEngine) : (w.setPlan p).st.outside = w.st.outside := rfl

@[simp] theorem Work.settle_outside (m : Mark) : (w.settle i m).st.outside = w.st.outside := by
  unfold Work.settle; split <;> (try split) <;> rfl

@[simp] theorem Work.put_outside (d : DoorRuntime) : (w.put i d).st.outside = w.st.outside := by
  unfold Work.put; simp only; split
  · rfl
  · split
    · rw [Work.settle_outside]; rfl
    · rfl

@[simp] theorem Work.modify_outside (f : DoorRuntime → DoorRuntime) : (w.modify i f).st.outside = w.st.outside :=
  w.put_outside i _

@[simp] theorem Work.join_outside : (w.join i g).st.outside = w.st.outside := rfl

@[simp] theorem Work.raise_outside (d : Dir) : (w.raise i d).st.outside = w.st.outside := by
  simp [Work.raise]

@[simp] theorem Work.queue_outside (d : Dir) (o : Origin) : (w.queue i d o).st.outside = w.st.outside := by
  simp [Work.queue]

@[simp] theorem Work.unclaim_outside : (w.unclaim i).st.outside = w.st.outside := by
  unfold Work.unclaim; split
  · rfl
  · simp only; split <;> rfl

@[simp] theorem Work.release_outside : (w.release i).st.outside = w.st.outside := by
  unfold Work.release; split <;> simp

@[simp] theorem Work.cancel_outside : (w.cancel i).st.outside = w.st.outside := by
  unfold Work.cancel; split <;> simp

@[simp] theorem Work.enterFault_outside (c : FaultCause) : (w.enterFault i c).st.outside = w.st.outside := by
  simp [Work.enterFault]

@[simp] theorem Work.enterClosed_outside : (w.enterClosed i).st.outside = w.st.outside := by
  simp [Work.enterClosed]

@[simp] theorem Work.rest_outside : (w.rest i).st.outside = w.st.outside := by
  unfold Work.rest; split
  · simp
  · split
    · simp
    · split <;> simp

@[simp] theorem Work.withdraw_outside : (w.withdraw i).st.outside = w.st.outside := by
  unfold Work.withdraw; split <;> simp

@[simp] theorem Work.enterClosing_outside (o : Origin) (b : Bool) : (w.enterClosing i o b).st.outside = w.st.outside := by
  unfold Work.enterClosing; simp only; split <;> simp

@[simp] theorem Work.closeOrder_outside (o : Origin) (b : Bool) : (w.closeOrder i o b).st.outside = w.st.outside := by
  unfold Work.closeOrder; split
  · rfl
  · split <;> simp

@[simp] theorem Work.enterRecloseWait_outside : (w.enterRecloseWait i).st.outside = w.st.outside := by
  unfold Work.enterRecloseWait; simp only; split <;> simp

@[simp] theorem Work.recloseRule_outside : (w.recloseRule i).st.outside = w.st.outside := by
  unfold Work.recloseRule; split <;> simp

end

@[simp] theorem Work.recomputeInhibit_outside (w : Work) : w.recomputeInhibit.st.outside = w.st.outside :=
  Work.foldl_keeps (fun w => w.st.outside) _ (fun w i => w.modify_outside i _) _ w

/-! ## Admission.lean -/

section
variable (w : Work) (g : GroupIx)

@[simp] theorem Work.admit_outside (c : Claim) (rest : List Claim) : (w.admitHead g c rest).st.outside = w.st.outside := by
  simp [Work.admitHead]

@[simp] theorem Work.examine_outside : (w.examine g).st.outside = w.st.outside := by
  unfold Work.examine; split
  · rfl
  · split
    · simp
    · rfl

@[simp] theorem Work.joinAll_outside : w.joinAll.st.outside = w.st.outside :=
  Work.foldl_keeps (fun w => w.st.outside) _ (fun w i => w.join_outside i _) _ _

@[simp] theorem Work.setSupply_outside (s : Supply) : (w.setSupply g s).st.outside = w.st.outside := by
  unfold Work.setSupply; simp only; split <;> simp

@[simp] theorem Work.setHeldFlag_outside : (w.setHeldFlag g).st.outside = w.st.outside := rfl

@[simp] theorem Work.takeTemperature_outside (r : GroupReport) : (w.takeTemperature g r).st.outside = w.st.outside := by
  unfold Work.takeTemperature; split <;> rfl

@[simp] theorem Work.takeGroupReport_outside (r : GroupReport) : (w.takeGroupReport g r).st.outside = w.st.outside := by
  simp [Work.takeGroupReport]

end

/-! ## Plan.lean -/

section
variable (w : Work)

@[simp] theorem Work.endRun_outside (b : Bool) : (w.endRun b).st.outside = w.st.outside := rfl

@[simp] theorem Work.handleDoor_outside (k : WaitKind) (i : DoorIx) : (w.handleDoor k i).st.outside = w.st.outside := by
  unfold Work.handleDoor; simp only; split_ifs <;> simp

@[simp] theorem Work.handleDoors_outside (k : WaitKind) (l : List DoorIx) :
    (l.foldl (fun w i => w.handleDoor k i) w).st.outside = w.st.outside :=
  Work.foldl_keeps (fun w => w.st.outside) _ (fun w i => w.handleDoor_outside k i) _ w

@[simp] theorem Work.enterStep_outside (k : StepIx) (r : PlanStep) : (w.enterStep k r).st.outside = w.st.outside := by
  unfold Work.enterStep; simp only; split
  · rfl
  · show (Work.setPlan _ _).st.outside = _
    simp

@[simp] theorem Work.linkTo_outside (b : PlanBank) (k : StepIx) : (w.linkTo b k).st.outside = w.st.outside := by
  unfold Work.linkTo; split <;> simp

@[simp] theorem Work.followLink_outside : w.followLink.st.outside = w.st.outside := by
  unfold Work.followLink; split
  · split <;> simp
  · rfl

@[simp] theorem Work.followUp_outside : ∀ (n : Nat) (w : Work), (w.followUp n).st.outside = w.st.outside
  | 0, _ => rfl
  | n + 1, w => by
    unfold Work.followUp; split
    · simp only; split
      · rw [Work.followUp_outside n]; simp
      · rfl
    · rfl

@[simp] theorem Work.runStart_outside : w.runStart.st.outside = w.st.outside := by
  unfold Work.runStart; simp only; split
  · split <;> simp
  · simp

@[simp] theorem Work.overrun_outside : w.overrun.st.outside = w.st.outside := by
  simp [Work.overrun]

@[simp] theorem Work.withdrawWhere_outside (p : DoorRuntime → Bool) : (w.withdrawWhere p).st.outside = w.st.outside :=
  Work.foldl_keeps (fun w => w.st.outside) _ (fun w i => by split <;> simp) _ w

@[simp] theorem Work.suspendRun_outside (k : StepIx) : (w.suspendRun k).st.outside = w.st.outside := by
  simp [Work.suspendRun]

@[simp] theorem Work.resumeRun_outside (k : StepIx) : (w.resumeRun k).st.outside = w.st.outside := by
  simp [Work.resumeRun]

@[simp] theorem Work.abortRun_outside : w.abortRun.st.outside = w.st.outside := by
  simp [Work.abortRun]

end

/-! ## Doors.lean -/

section
variable (w : Work) (i : DoorIx)

@[simp] theorem Work.completeClosing_outside : (w.completeClosing i).st.outside = w.st.outside := by
  simp [Work.completeClosing]

@[simp] theorem Work.completeOpening_outside : (w.completeOpening i).st.outside = w.st.outside := by
  simp [Work.completeOpening]

@[simp] theorem Work.deadlineEnd_outside : (w.deadlineEnd i).st.outside = w.st.outside := by
  unfold Work.deadlineEnd; split <;> simp

@[simp] theorem Work.loseLine_outside : (w.loseLine i).st.outside = w.st.outside := by
  unfold Work.loseLine; simp only; split
  · rfl
  · split <;> simp

@[simp] theorem Work.recover_outside : (w.recover i).st.outside = w.st.outside := by
  simp [Work.recover]

@[simp] theorem Work.takeLimits_outside (r : DoorReport) : (w.takeLimits i r).st.outside = w.st.outside := by
  unfold Work.takeLimits; simp only; split <;> (try split_ifs) <;> simp

@[simp] theorem Work.refuseLocal_outside : (w.refuseLocal i).st.outside = w.st.outside := by
  simp [Work.refuseLocal]

@[simp] theorem Work.localOpen_outside : (w.localOpen i).st.outside = w.st.outside := by
  unfold Work.localOpen; simp only; split_ifs <;> simp

@[simp] theorem Work.holdRelease_outside (l : Level) : (w.holdRelease i l).st.outside = w.st.outside := by
  unfold Work.holdRelease; simp only; split_ifs <;> simp

@[simp] theorem Work.setPassage_outside : (w.setPassage i).st.outside = w.st.outside := by
  simp [Work.setPassage]

@[simp] theorem Work.passageRequest_outside : (w.passageRequest i).st.outside = w.st.outside := by
  unfold Work.passageRequest; simp only; split_ifs <;> simp

@[simp] theorem Work.passageRelease_outside : (w.passageRelease i).st.outside = w.st.outside := by
  unfold Work.passageRelease; split
  · simp only; split
    · split <;> simp
    · simp
  · rfl

@[simp] theorem Work.localRelease_outside (l : Level) : (w.localRelease i l).st.outside = w.st.outside := by
  unfold Work.localRelease; split
  · split <;> simp
  · rfl

@[simp] theorem Work.localPress_outside (l : Level) : (w.localPress i l).st.outside = w.st.outside := by
  unfold Work.localPress; split
  · split <;> simp
  · rfl

@[simp] theorem Work.localControls_outside (a b : Level) : (w.localControls i a b).st.outside = w.st.outside := by
  unfold Work.localControls; split
  · rfl
  · simp only; split_ifs <;> simp

@[simp] theorem Work.manualChange_outside (b : Bool) : (w.manualChange i b).st.outside = w.st.outside := by
  unfold Work.manualChange; simp only; split_ifs <;> simp

@[simp] theorem Work.reportChecks_outside (r : DoorReport) (d : DoorRuntime) :
    (w.reportChecks i r d).st.outside = w.st.outside := by
  unfold Work.reportChecks; simp only; split_ifs <;> simp

@[simp] theorem Work.takeReport_outside (r : DoorReport) : (w.takeReport i r).st.outside = w.st.outside := by
  unfold Work.takeReport; simp only; split <;> simp

@[simp] theorem Work.holdSeaOpen_outside : (w.holdSeaOpen i).st.outside = w.st.outside := by
  unfold Work.holdSeaOpen; split <;> simp

@[simp] theorem Work.openByState_outside : (w.openByState i).st.outside = w.st.outside := by
  unfold Work.openByState; simp only; split <;> (try split_ifs) <;> simp

@[simp] theorem Work.doorOrder_outside (a : DoorAction) : (w.doorOrder i a).1.st.outside = w.st.outside := by
  unfold Work.doorOrder; split
  · rfl
  · split
    · simp
    · unfold Work.openOrder; split_ifs <;> simp
    · unfold Work.stopOrder; split_ifs <;> simp
    · unfold Work.ackOrder; simp only; split_ifs <;> simp

end

/-! ## The end of an event -/

/-- The sea reclose rule over the doors due changes nothing outside the doors. -/
@[simp] theorem Work.recloseDue_outside (w : Work) : w.recloseDue.st.outside = w.st.outside :=
  Work.foldl_keeps (fun w => w.st.outside) _ (fun w i => w.recloseRule_outside i) _ _

@[simp] theorem Work.examineNext_outside (w : Work) : w.examineNext.st.outside = w.st.outside := by
  unfold Work.examineNext; split <;> simp

/-- The step entries of an event change nothing outside the doors, the groups and the plan engine. -/
@[simp] theorem Work.makeEntries_outside : ∀ (n : Nat) (w : Work), (w.makeEntries n).st.outside = w.st.outside
  | 0, _ => rfl
  | n + 1, w => by
    unfold Work.makeEntries
    simp only
    split
    · rw [Work.makeEntries_outside n]; simp
    · simp

/-- A run start with its step entries changes nothing outside the doors, the groups and the plan engine. -/
@[simp] theorem Work.rerun_outside (w : Work) : w.rerun.st.outside = w.st.outside :=
  ((w.runStart).makeEntries_outside drainRounds).trans (by simp)

/-- With no launch held for a run's end, the end of a run changes nothing outside the doors. -/
theorem Work.handEnd_outside (w : Work) (h : ∀ p, w.st.pendingLaunch = some p → p.mode = .atCycle) :
    w.handEnd.st.outside = w.st.outside := by
  unfold Work.handEnd; split
  · simp only [Work.applyHeld]
    cases hp : w.st.pendingLaunch with
    | none => rfl
    | some p => simp [h p hp]
  · rfl

/-- An event with nothing left owed leaves its state as it is. -/
theorem Work.finish_of_quiet (w : Work) (h : w.quiet = true) : w.finish = w.st := by
  simp [Work.finish, Work.drain, drainRounds, h]

/-- With no launch held for a run's end, an event changes nothing outside the doors, the groups and the plan engine
while it pays what it owes. -/
theorem Work.drain_outside : ∀ (n : Nat) (w : Work),
    (∀ p, w.st.pendingLaunch = some p → p.mode = .atCycle) → (w.drain n).st.outside = w.st.outside
  | 0, w, _ => by simp [Work.drain]
  | n + 1, w, h => by
    unfold Work.drain; split
    · rfl
    · have h1 : (w.followUp 17).st.outside = w.st.outside := by simp
      have h2 : ∀ p, (w.followUp 17).st.pendingLaunch = some p → p.mode = .atCycle := by
        have : (w.followUp 17).st.pendingLaunch = w.st.pendingLaunch :=
          (congrArg State.pendingLaunch h1 :)
        rw [this]; exact h
      have h3 : w.prepare.examineNext.st.outside = w.st.outside := by
        simp [Work.prepare, Work.handEnd_outside _ h2]
      have h4 : w.prepare.examineNext.st.pendingLaunch = w.st.pendingLaunch :=
        (congrArg State.pendingLaunch h3 :)
      rw [Work.drain_outside n _ (by rw [h4]; exact h), h3]

/-- With no launch held for a run's end, an event's end changes nothing outside the doors, the groups and the plan
engine. -/
theorem Work.finish_outside (w : Work) (h : ∀ p, w.st.pendingLaunch = some p → p.mode = .atCycle) :
    w.finish.outside = w.st.outside := w.drain_outside drainRounds h

end Sys2Proof.Machine
end

