-- ==== Sys2Proof/Laws/Index.lean ====
section
/-! SUPPORT. Index.lean: reading an indexed table after one entry was replaced, and reading a table built by index. -/

-- One declaration is checked after another, so that no worker threads pile up on a large machine.
set_option Elab.async false

namespace Sys2Proof

variable {α : Type} {n : Nat}

/-- The replaced entry reads as what was written. -/
@[simp] theorem upd_same (v : Vector α n) (i : Fin n) (x : α) : (upd v i x)[i] = x := by
  simp [upd]

/-- The same, in the form that `simp` gives an index. -/
@[simp] theorem upd_same_val (v : Vector α n) (i : Fin n) (x : α) (h : i.val < n) : (upd v i x)[i.val] = x := by
  simp [upd]

/-- Every other entry reads as before. -/
theorem upd_ne (v : Vector α n) (i j : Fin n) (x : α) (h : i ≠ j) : (upd v i x)[j] = v[j] := by
  have hv : i.val ≠ j.val := fun e => h (Fin.ext e)
  simp [upd, Vector.getElem_set_ne _ _ hv]

/-- An entry after a replacement, by cases. -/
theorem upd_get (v : Vector α n) (i j : Fin n) (x : α) : (upd v i x)[j] = if i = j then x else v[j] := by
  by_cases h : i = j
  · subst h; rw [upd_same, if_pos rfl]
  · rw [upd_ne v i j x h, if_neg h]

/-- Of two writes of one entry the later one stands. -/
@[simp] theorem upd_upd (v : Vector α n) (i : Fin n) (x y : α) : upd (upd v i x) i y = upd v i y := by
  simp [upd]

/-- Writing what an entry holds changes nothing. -/
@[simp] theorem upd_self (v : Vector α n) (i : Fin n) : upd v i v[i] = v := by
  simp [upd]

/-- Writes of two different entries commute. -/
theorem upd_comm (v : Vector α n) (i j : Fin n) (x y : α) (h : i ≠ j) : upd (upd v i x) j y = upd (upd v j y) i x := by
  have hv : i.val ≠ j.val := fun e => h (Fin.ext e)
  simp only [upd]; exact Vector.set_comm _ _ hv

/-- Two tables with the same entries are the same. -/
theorem table_ext {v w : Vector α n} (h : ∀ i : Fin n, v[i] = w[i]) : v = w :=
  Vector.ext fun i hi => h ⟨i, hi⟩

/-- An entry of a table built by index. -/
@[simp] theorem table_ofFn (f : Fin n → α) (i : Fin n) : (Vector.ofFn f)[i] = f i := by
  simp

/-- An entry of a table mapped. -/
@[simp] theorem table_map {β : Type} (f : α → β) (v : Vector α n) (i : Fin n) : (v.map f)[i] = f v[i] := by
  simp

end Sys2Proof
end

