-- ==== Sys2Proof/Laws/Finish.lean ====
section
/-! SUPPORT. Finish.lean: what the small operations of an event do to a door's record when no plan step runs, and what the
end of an event does when nothing more can move: raised claims join, and that is all. -/

-- One declaration is checked after another, so that no worker threads pile up on a large machine.
set_option Elab.async false

namespace Sys2Proof.Machine

open Sys2Proof

/-! ## Writing a door's record -/

/-- With no step running no mark is set (R103). -/
theorem Work.settle_of_noStep (w : Work) (i : DoorIx) (m : Mark) (h : w.st.NoStepRuns) : w.settle i m = w := by
  unfold Work.settle
  cases he : w.st.plan.engine with
  | running k => exact absurd he (h k)
  | idle => rfl
  | suspended k => rfl
  | done => rfl

/-- The work with one door's record written and its changed flag kept up (R5), no mark set. -/
def Work.written (w : Work) (i : DoorIx) (d : DoorRuntime) : Work :=
  { w with st := w.st.setDoor i (d.markChanged w.st.doors[i]) }

/-- A record written over one with the same state: no mark can be set. -/
theorem Work.put_of_state (w : Work) (i : DoorIx) (d : DoorRuntime) (h : d.state = w.st.doors[i].state) :
    w.put i d = w.written i d := if_pos (c := d.state = (w.door i).state) h

/-- A record written with a state that settles no door: no mark can be set. -/
theorem Work.put_of_mark (w : Work) (i : DoorIx) (d : DoorRuntime) (h : ∀ k, markOnEntry k d.state = none) :
    w.put i d = w.written i d := by
  unfold Work.put
  by_cases hs : d.state = (w.door i).state
  · exact if_pos hs
  · refine (if_neg hs).trans ?_; rw [h]; rfl

/-- A record written with no step running: no mark can be set. -/
theorem Work.put_of_noStep (w : Work) (i : DoorIx) (d : DoorRuntime) (h : w.st.NoStepRuns) :
    w.put i d = w.written i d := by
  unfold Work.put
  by_cases hs : d.state = (w.door i).state
  · exact if_pos hs
  · refine (if_neg hs).trans ?_
    cases hm : markOnEntry w.st.currentWait d.state with
    | none => rfl
    | some m => exact Work.settle_of_noStep (w.written i d) i m h

/-! ## The end of an event -/

/-- No set has a member that the empty set lacks. -/
@[simp] theorem members_empty : members 0 = [] := by decide

@[simp] theorem Work.joinAll_none (w : Work) (h : w.joins = 0) : w.joinAll = w := by
  obtain ⟨st, joins, dirty, due, check, ended⟩ := w
  subst h
  show List.foldl _ _ (members 0) = _
  rw [members_empty]; rfl

/-- The head of a group's queue, if there is one, does not fit (R62). -/
def State.headStays (s : State) (g : GroupIx) : Prop := ∀ c, s.groups[g].queue.head? = some c → s.fits g c = false

/-- A queue whose head does not fit is examined without effect. -/
theorem Work.examine_stays (w : Work) (g : GroupIx) (h : w.st.headStays g) :
    w.examine g = { w with dirty := w.dirty &&& ~~~(groupBit g) } := by
  unfold Work.examine
  cases hq : w.st.groups[g].queue with
  | nil => rfl
  | cons c rest => simp [h c (by rw [hq]; rfl)]

/-- An event that owes at most examinations of queues whose heads stay. -/
structure Work.Settled (w : Work) : Prop where
  joins : w.joins = 0
  due : w.due = 0
  check : w.check = false
  ended : w.ended = false
  heads : ∀ g, inGroups w.dirty g = true → w.st.headStays g

theorem dirty_after (d : GroupSet) (g h : GroupIx) (hh : inGroups (d &&& ~~~(groupBit g)) h = true) :
    inGroups d h = true := by
  simp only [inGroups, BitVec.getLsbD_and, Bool.and_eq_true] at hh ⊢; exact hh.1

theorem Work.Settled.examineNext {w : Work} (h : w.Settled) : w.examineNext.Settled ∧ w.examineNext.st = w.st := by
  unfold Work.examineNext
  cases hg : w.dirtyGroup with
  | none => exact ⟨h, rfl⟩
  | some g =>
    have hd : inGroups w.dirty g = true := by
      unfold Work.dirtyGroup at hg; exact List.find?_some hg
    simp only [w.examine_stays g (h.heads g hd)]
    exact ⟨⟨h.joins, h.due, h.check, h.ended, fun k hk => h.heads k (dirty_after _ _ _ hk)⟩, trivial⟩

theorem Work.Settled.prepare {w : Work} (h : w.Settled) : w.prepare = w := by
  have h1 : w.followUp 17 = w := by unfold Work.followUp; simp [h.check]
  have h2 : w.handEnd = w := by unfold Work.handEnd; simp [h.ended]
  have h3 : w.recloseDue = w := by 
    obtain ⟨st, joins, dirty, due, check, ended⟩ := w
    have hd : due = 0 := h.due
    subst hd
    show List.foldl _ _ (members 0) = _
    rw [members_empty]; rfl
  unfold Work.prepare; rw [h1, h2, h3, Work.joinAll_none _ h.joins]

theorem Work.Settled.drain : ∀ (n : Nat) {w : Work}, w.Settled → (w.drain n).st = w.st
  | 0, w, h => by unfold Work.drain; rw [Work.joinAll_none _ h.joins]
  | n + 1, w, h => by
    unfold Work.drain; split
    · rfl
    · rw [h.prepare, Work.Settled.drain n h.examineNext.1, h.examineNext.2]

/-- Reclosing leaves the event as it is when the rule takes none of the doors due. -/
theorem Work.recloseDue_none (w : Work) (h : ∀ i ∈ members w.due, w.st.recloses i = false) :
    w.recloseDue = { w with due := 0 } := by
  unfold Work.recloseDue
  generalize hl : members w.due = l at h
  clear hl
  induction l with
  | nil => rfl
  | cons a l ih =>
    rw [List.foldl_cons]
    have : Work.recloseRule { w with due := 0 } a = { w with due := 0 } := by
      unfold Work.recloseRule; rw [if_neg]; simp [h a (by simp)]
    rw [this]; exact ih (fun i hi => h i (by simp [hi]))

theorem Work.joinAll_check (w : Work) : w.joinAll.check = w.check :=
  Work.foldl_keeps Work.check (fun w i => w.join i (w.groupOf i)) (fun _ _ => rfl) _ _
theorem Work.joinAll_ended (w : Work) : w.joinAll.ended = w.ended :=
  Work.foldl_keeps Work.ended (fun w i => w.join i (w.groupOf i)) (fun _ _ => rfl) _ _
theorem Work.joinAll_due (w : Work) : w.joinAll.due = w.due :=
  Work.foldl_keeps Work.due (fun w i => w.join i (w.groupOf i)) (fun _ _ => rfl) _ _
theorem Work.joinAll_joins (w : Work) : w.joinAll.joins = 0 :=
  Work.foldl_keeps Work.joins (fun w i => w.join i (w.groupOf i)) (fun _ _ => rfl) _ _

/-- An event in which no step, no end of a run and no reclosing is owed, and which leaves no head that fits, ends with its
raised claims joined and nothing else changed. -/
theorem Work.finish_joins (w : Work) (hc : w.check = false) (he : w.ended = false)
    (hd : ∀ i ∈ members w.due, w.st.recloses i = false)
    (hq : ∀ g, inGroups w.joinAll.dirty g = true → w.joinAll.st.headStays g) :
    w.finish = w.joinAll.st := by
  have h1 : w.followUp 17 = w := by unfold Work.followUp; simp [hc]
  have h2 : w.handEnd = w := by unfold Work.handEnd; simp [he]
  have h3 : w.prepare.st = w.joinAll.st ∧ w.prepare.Settled := by
    have hp : w.prepare = Work.joinAll { w with due := 0 } := by
      unfold Work.prepare; rw [h1, h2, w.recloseDue_none hd]
    have hdirty : (Work.joinAll { w with due := 0 }).dirty = w.joinAll.dirty
        ∧ (Work.joinAll { w with due := 0 }).st = w.joinAll.st := by
      unfold Work.joinAll
      generalize members w.joins = l
      have : ∀ (l : List DoorIx) (u v : Work), u.dirty = v.dirty → u.st = v.st →
          (l.foldl (fun w i => w.join i (w.groupOf i)) u).dirty = (l.foldl (fun w i => w.join i (w.groupOf i)) v).dirty
          ∧ (l.foldl (fun w i => w.join i (w.groupOf i)) u).st
            = (l.foldl (fun w i => w.join i (w.groupOf i)) v).st := by
        intro l
        induction l with
        | nil => intro u v hu hs; exact ⟨hu, hs⟩
        | cons a l ih =>
          intro u v hu hs
          simp only [List.foldl_cons]
          apply ih
          · simp [Work.join, Work.touch, Work.setQueue, Work.setGroup, Work.groupOf, hu, hs]
          · simp [Work.join, Work.touch, Work.setQueue, Work.setGroup, Work.groupOf, Work.door, hs]
      exact this l _ _ rfl rfl
    rw [hp]
    refine ⟨hdirty.2, ⟨Work.joinAll_joins _, Work.joinAll_due _, ?_, ?_, ?_⟩⟩
    · rw [Work.joinAll_check]; exact hc
    · rw [Work.joinAll_ended]; exact he
    · intro g hg; rw [hdirty.1] at hg; rw [hdirty.2]; exact hq g hg
  unfold Work.finish drainRounds Work.drain
  split
  · rename_i hquiet
    have : w.joins = 0 := by
      simp only [Work.quiet, Bool.and_eq_true, beq_iff_eq] at hquiet; exact hquiet.1.1.1.1
    rw [Work.joinAll_none _ this]
  · rw [Work.Settled.drain _ h3.2.examineNext.1, h3.2.examineNext.2, h3.1]

/-- The same for an event that raised no claim: it leaves its state as it is. -/
theorem Work.finish_settled (w : Work) (hj : w.joins = 0) (hc : w.check = false) (he : w.ended = false)
    (hd : ∀ i ∈ members w.due, w.st.recloses i = false)
    (hq : ∀ g, inGroups w.dirty g = true → w.st.headStays g) : w.finish = w.st := by
  have := w.finish_joins hc he hd (by rw [Work.joinAll_none _ hj]; exact hq)
  rw [this, Work.joinAll_none _ hj]

end Sys2Proof.Machine
end

