-- ==== Sys2Proof/Laws/Doors.lean ====
section
/-! SUPPORT. Doors.lean: what the door machine's shared operations do to one door's record when no plan step runs: the
record that is left, the flag of R5, rest by limits (R8), and how a good report reaches the door machine (R143). -/

-- One declaration is checked after another, so that no worker threads pile up on a large machine.
set_option Elab.async false

namespace Sys2Proof.Machine

open Sys2Proof

/-- A rewritten record, no step running: the record with its changed flag kept up, and nothing else. -/
theorem Work.modify_of_noStep (w : Work) (i : DoorIx) (f : DoorRuntime → DoorRuntime) (h : w.st.NoStepRuns) :
    w.modify i f = w.written i (f w.st.doors[i]) := Work.put_of_noStep _ _ _ h

/-- The record a write leaves. -/
@[simp] theorem Work.written_doors (w : Work) (i : DoorIx) (d : DoorRuntime) :
    (w.written i d).st.doors[i] = d.markChanged w.st.doors[i] := by
  simp [Work.written, State.setDoor]

/-- A write of a door's record leaves the engine as it is. -/
@[simp] theorem Work.written_plan (w : Work) (i : DoorIx) (d : DoorRuntime) : (w.written i d).st.plan = w.st.plan := rfl

/-- A write of a door's record leaves the lines as they are. -/
@[simp] theorem Work.written_doorLines (w : Work) (i : DoorIx) (d : DoorRuntime) :
    (w.written i d).st.doorLines = w.st.doorLines := rfl

/-- R5: the changed flag is set by a differing indication and else kept. -/
theorem DoorRuntime.markChanged_eq (d old : DoorRuntime) :
    d.markChanged old = { d with changed := decide (d.indication ≠ old.indication) || d.changed } := by
  unfold DoorRuntime.markChanged
  by_cases h : d.indication = old.indication
  · rw [if_pos h]; simp [h]
  · rw [if_neg h]; simp [h]

/-- The set of one door has that door alone. -/
@[simp] theorem members_doorBit (i : DoorIx) : members (doorBit i) = [i] := by revert i; decide

/-- R8: rest by limits of a held report without conflict, no step running. -/
theorem Work.rest_of_report (w : Work) (i : DoorIx) (r : DoorReport) (h : w.st.doorLines[i].held = some r)
    (hc : r.conflicting = false) (hn : w.st.NoStepRuns) :
    w.rest i =
      if r.closedLimit = true then w.written i { w.st.doors[i] with state := .closed, seaOpenHeld := false }
      else (w.written i { w.st.doors[i] with state := r.restState }).dueReclose i := by
  unfold Work.rest
  rw [h]
  simp only [hc, Work.enterClosed, Work.modify_of_noStep _ _ _ hn]
  rfl

/-- R143: a good report outside start-up is handed to the door machine with its line GOOD. -/
theorem exec_doorReport_of_receives {s : State} {i : DoorIx} {bytes : List Byte} {r : DoorReport}
    (h : s.Receives i bytes r) :
    exec (.doorReportArrival i bytes) s =
      .next (((Work.start (s.heard i r)).markLine i s.doorLines[i].ctl.line .good).takeReport i r).finish := by
  obtain ⟨h1, h2, h3⟩ := h
  obtain ⟨y, hy⟩ := Option.ne_none_iff_exists'.mp h2
  simp only [exec, execDoorReportArrival, State.doorReply, hy, h3, State.goodDoor]
  rw [if_pos h1]
  rfl

/-- What the report is handed over with. -/
@[simp] theorem State.heard_held (s : State) (i : DoorIx) (r : DoorReport) :
    (s.heard i r).doorLines[i].held = some r := by
  simp [State.heard, State.setDoorLine]

@[simp] theorem State.heard_doors (s : State) (i : DoorIx) (r : DoorReport) : (s.heard i r).doors = s.doors := rfl
@[simp] theorem State.heard_groups (s : State) (i : DoorIx) (r : DoorReport) : (s.heard i r).groups = s.groups := rfl
@[simp] theorem State.heard_tables (s : State) (i : DoorIx) (r : DoorReport) : (s.heard i r).tables = s.tables := rfl
@[simp] theorem State.heard_mode (s : State) (i : DoorIx) (r : DoorReport) : (s.heard i r).mode = s.mode := rfl
@[simp] theorem State.heard_plan (s : State) (i : DoorIx) (r : DoorReport) : (s.heard i r).plan = s.plan := rfl

/-! ## Giving back (R9, R61) -/

/-- R61: a claim that leaves its queue, none being raised in the event: only a removed head asks for a re-examination. -/
theorem Work.unclaim_of_joins (w : Work) (i : DoorIx) (h : w.joins = 0) :
    w.unclaim i =
      let w1 : Work := { w with st := w.st.unqueue i }
      if w.st.groups[w.groupOf i].queue.head?.map Claim.door = some i then w1.touch (w.groupOf i) else w1 := by
  have hn : inSet w.joins i ≠ true := by rw [h]; revert i; decide
  unfold Work.unclaim
  rw [if_neg hn]
  rfl

/-- R67: a released load: the door's record without it, the group's in-use less it. -/
theorem Work.release_eq (w : Work) (i : DoorIx) (hn : w.st.NoStepRuns) (g : GroupIx) (units : Nat)
    (h : w.st.doors[i].heldLoad = some (g, units)) :
    w.release i =
      Work.touch { w with st := (w.written i { w.st.doors[i] with heldLoad := none }).st.unload w.st.doors[i] } g := by
  unfold Work.release
  rw [show (w.door i).heldLoad = some (g, units) from h]
  simp only [Work.modify_of_noStep _ _ _ hn, State.unload, h]
  rfl

@[simp] theorem State.unqueue_doors (s : State) (i : DoorIx) : (s.unqueue i).doors = s.doors := rfl
@[simp] theorem State.unqueue_tables (s : State) (i : DoorIx) : (s.unqueue i).tables = s.tables := rfl
@[simp] theorem State.unqueue_plan (s : State) (i : DoorIx) : (s.unqueue i).plan = s.plan := rfl
@[simp] theorem State.unqueue_outside (s : State) (i : DoorIx) : (s.unqueue i).outside = s.outside := rfl

@[simp] theorem State.unload_doors (s : State) (d : DoorRuntime) : (s.unload d).doors = s.doors := by
  unfold State.unload; split <;> rfl
@[simp] theorem State.unload_tables (s : State) (d : DoorRuntime) : (s.unload d).tables = s.tables := by
  unfold State.unload; split <;> rfl
@[simp] theorem State.unload_plan (s : State) (d : DoorRuntime) : (s.unload d).plan = s.plan := by
  unfold State.unload; split <;> rfl
@[simp] theorem State.unload_outside (s : State) (d : DoorRuntime) : (s.unload d).outside = s.outside := by
  unfold State.unload; split <;> rfl

/-- What a door gives back is its load, its claim or nothing. -/
theorem State.giveBack_cases (s : State) (i : DoorIx) :
    s.giveBack i = s.unload s.doors[i] ∨ s.giveBack i = s.unqueue i ∨ s.giveBack i = s := by
  unfold State.giveBack
  by_cases h1 : s.doors[i].state = .closing ∨ s.doors[i].state = .opening
  · exact .inl (if_pos h1)
  · by_cases h2 : s.doors[i].state = .queued
    · exact .inr (.inl ((if_neg h1).trans (if_pos h2)))
    · exact .inr (.inr ((if_neg h1).trans (if_neg h2)))

@[simp] theorem State.giveBack_doors (s : State) (i : DoorIx) : (s.giveBack i).doors = s.doors := by
  rcases s.giveBack_cases i with h | h | h <;> simp [h]
@[simp] theorem State.giveBack_tables (s : State) (i : DoorIx) : (s.giveBack i).tables = s.tables := by
  rcases s.giveBack_cases i with h | h | h <;> simp [h]
@[simp] theorem State.giveBack_plan (s : State) (i : DoorIx) : (s.giveBack i).plan = s.plan := by
  rcases s.giveBack_cases i with h | h | h <;> simp [h]
@[simp] theorem State.giveBack_outside (s : State) (i : DoorIx) : (s.giveBack i).outside = s.outside := by
  rcases s.giveBack_cases i with h | h | h <;> simp [h]

end Sys2Proof.Machine
end

