-- ==== Sys2Proof/Laws/Orders.lean ====
section
/-! SUPPORT. Orders.lean: what the order decoder does with an order it takes (R115 to R118): who is turned away, and that
an order of a sender with what it needs reaches its owner. -/

-- One declaration is checked after another, so that no worker threads pile up on a large machine.
set_option Elab.async false

namespace Sys2Proof.Machine

open Sys2Proof

/-- An order of a station with standing: refused by its rights, or handed to its owner (R117, R118). -/
theorem State.takeOrder_of_hears {s : State} {src : Byte} {n : Slot} (h : s.Hears src n) (t : OrderTag) (need : Need)
    (owner : Slot → State) :
    s.takeOrder src t need owner =
      match s.rightsRefusal n need with
      | some o => s.answer n t o
      | none => owner n := by
  obtain ⟨h1, h2, h3⟩ := h
  unfold State.takeOrder
  rw [if_pos h1, h2]
  exact if_pos h3

/-- An order whose sender has what it needs reaches its owner. -/
theorem State.takeOrder_taken {s : State} {src : Byte} {n : Slot} (h : s.Hears src n) {t : OrderTag} {need : Need}
    {owner : Slot → State} (hr : s.rightsRefusal n need = none) : s.takeOrder src t need owner = owner n := by
  rw [State.takeOrder_of_hears h, hr]

/-- An order whose sender lacks what it needs is refused and changes nothing else. -/
theorem State.takeOrder_refused {s : State} {src : Byte} {n : Slot} (h : s.Hears src n) {t : OrderTag} {need : Need}
    {owner : Slot → State} {o : OrderOutcome} (hr : s.rightsRefusal n need = some o) :
    s.takeOrder src t need owner = s.answer n t o := by
  rw [State.takeOrder_of_hears h, hr]

/-- An enrolled station needs nothing more for an order that needs enrolment alone. -/
@[simp] theorem State.rightsRefusal_enrolled (s : State) (n : Slot) : s.rightsRefusal n .enrolled = none := rfl

/-- The holder may give an order that needs authority. -/
theorem State.rightsRefusal_authority {s : State} {n : Slot} (h : s.holder = some n) :
    s.rightsRefusal n .authority = none := by
  simp [State.rightsRefusal, h]

/-- A station with command right may give an order that needs it. -/
theorem State.rightsRefusal_command {s : State} {n : Slot} (h : hasCommand s.tables n = true) :
    s.rightsRefusal n .command = none := by
  simp [State.rightsRefusal, h]

/-- A station with the manage right may give an order that needs it. -/
theorem State.rightsRefusal_manage {s : State} {n : Slot} (h : hasManage s.tables n = true) :
    s.rightsRefusal n .manage = none := by
  simp [State.rightsRefusal, h]

end Sys2Proof.Machine
end

