-- ==== Sys2Proof/Laws/State.lean ====
section
/-! SUPPORT. State.lean: what each named update of the state writes and what it leaves, one lemma per field. -/

-- One declaration is checked after another, so that no worker threads pile up on a large machine.
set_option Elab.async false

namespace Sys2Proof.Machine

open Sys2Proof

section
variable (s : State) (i : DoorIx) (l : DoorLine)

@[simp] theorem State.setDoorLine_phase : (s.setDoorLine i l).phase = s.phase := rfl
@[simp] theorem State.setDoorLine_straps : (s.setDoorLine i l).straps = s.straps := rfl
@[simp] theorem State.setDoorLine_resetCause : (s.setDoorLine i l).resetCause = s.resetCause := rfl
@[simp] theorem State.setDoorLine_schemeFuse : (s.setDoorLine i l).schemeFuse = s.schemeFuse := rfl
@[simp] theorem State.setDoorLine_tables : (s.setDoorLine i l).tables = s.tables := rfl
@[simp] theorem State.setDoorLine_doors : (s.setDoorLine i l).doors = s.doors := rfl
@[simp] theorem State.setDoorLine_doorLines : (s.setDoorLine i l).doorLines = upd s.doorLines i l := rfl
@[simp] theorem State.setDoorLine_groups : (s.setDoorLine i l).groups = s.groups := rfl
@[simp] theorem State.setDoorLine_groupLines : (s.setDoorLine i l).groupLines = s.groupLines := rfl
@[simp] theorem State.setDoorLine_beatOn : (s.setDoorLine i l).beatOn = s.beatOn := rfl
@[simp] theorem State.setDoorLine_beatTimer : (s.setDoorLine i l).beatTimer = s.beatTimer := rfl
@[simp] theorem State.setDoorLine_inhibitSet : (s.setDoorLine i l).inhibitSet = s.inhibitSet := rfl
@[simp] theorem State.setDoorLine_heldHeel : (s.setDoorLine i l).heldHeel = s.heldHeel := rfl
@[simp] theorem State.setDoorLine_plan : (s.setDoorLine i l).plan = s.plan := rfl
@[simp] theorem State.setDoorLine_mode : (s.setDoorLine i l).mode = s.mode := rfl
@[simp] theorem State.setDoorLine_holder : (s.setDoorLine i l).holder = s.holder := rfl
@[simp] theorem State.setDoorLine_transfer : (s.setDoorLine i l).transfer = s.transfer := rfl
@[simp] theorem State.setDoorLine_ports : (s.setDoorLine i l).ports = s.ports := rfl
@[simp] theorem State.setDoorLine_activeLoop : (s.setDoorLine i l).activeLoop = s.activeLoop := rfl
@[simp] theorem State.setDoorLine_contact : (s.setDoorLine i l).contact = s.contact := rfl
@[simp] theorem State.setDoorLine_snapshot : (s.setDoorLine i l).snapshot = s.snapshot := rfl
@[simp] theorem State.setDoorLine_lastCycle : (s.setDoorLine i l).lastCycle = s.lastCycle := rfl
@[simp] theorem State.setDoorLine_responseLost : (s.setDoorLine i l).responseLost = s.responseLost := rfl
@[simp] theorem State.setDoorLine_staging : (s.setDoorLine i l).staging = s.staging := rfl
@[simp] theorem State.setDoorLine_stagingOwner : (s.setDoorLine i l).stagingOwner = s.stagingOwner := rfl
@[simp] theorem State.setDoorLine_cursors : (s.setDoorLine i l).cursors = s.cursors := rfl
@[simp] theorem State.setDoorLine_pendingLaunch : (s.setDoorLine i l).pendingLaunch = s.pendingLaunch := rfl
@[simp] theorem State.setDoorLine_storeEngine : (s.setDoorLine i l).storeEngine = s.storeEngine := rfl
@[simp] theorem State.setDoorLine_storeTimer : (s.setDoorLine i l).storeTimer = s.storeTimer := rfl
@[simp] theorem State.setDoorLine_saveImage : (s.setDoorLine i l).saveImage = s.saveImage := rfl
@[simp] theorem State.setDoorLine_storeSender : (s.setDoorLine i l).storeSender = s.storeSender := rfl
@[simp] theorem State.setDoorLine_lastSave : (s.setDoorLine i l).lastSave = s.lastSave := rfl
@[simp] theorem State.setDoorLine_tablesFromStore : (s.setDoorLine i l).tablesFromStore = s.tablesFromStore := rfl
@[simp] theorem State.setDoorLine_storeTorn : (s.setDoorLine i l).storeTorn = s.storeTorn := rfl
@[simp] theorem State.setDoorLine_choices : (s.setDoorLine i l).choices = s.choices := rfl
@[simp] theorem State.setDoorLine_pending : (s.setDoorLine i l).pending = s.pending := rfl

end

section
variable (s : State) (g : GroupIx) (l : GroupLine)

@[simp] theorem State.setGroupLine_phase : (s.setGroupLine g l).phase = s.phase := rfl
@[simp] theorem State.setGroupLine_straps : (s.setGroupLine g l).straps = s.straps := rfl
@[simp] theorem State.setGroupLine_resetCause : (s.setGroupLine g l).resetCause = s.resetCause := rfl
@[simp] theorem State.setGroupLine_schemeFuse : (s.setGroupLine g l).schemeFuse = s.schemeFuse := rfl
@[simp] theorem State.setGroupLine_tables : (s.setGroupLine g l).tables = s.tables := rfl
@[simp] theorem State.setGroupLine_doors : (s.setGroupLine g l).doors = s.doors := rfl
@[simp] theorem State.setGroupLine_doorLines : (s.setGroupLine g l).doorLines = s.doorLines := rfl
@[simp] theorem State.setGroupLine_groups : (s.setGroupLine g l).groups = s.groups := rfl
@[simp] theorem State.setGroupLine_groupLines : (s.setGroupLine g l).groupLines = upd s.groupLines g l := rfl
@[simp] theorem State.setGroupLine_beatOn : (s.setGroupLine g l).beatOn = s.beatOn := rfl
@[simp] theorem State.setGroupLine_beatTimer : (s.setGroupLine g l).beatTimer = s.beatTimer := rfl
@[simp] theorem State.setGroupLine_inhibitSet : (s.setGroupLine g l).inhibitSet = s.inhibitSet := rfl
@[simp] theorem State.setGroupLine_heldHeel : (s.setGroupLine g l).heldHeel = s.heldHeel := rfl
@[simp] theorem State.setGroupLine_plan : (s.setGroupLine g l).plan = s.plan := rfl
@[simp] theorem State.setGroupLine_mode : (s.setGroupLine g l).mode = s.mode := rfl
@[simp] theorem State.setGroupLine_holder : (s.setGroupLine g l).holder = s.holder := rfl
@[simp] theorem State.setGroupLine_transfer : (s.setGroupLine g l).transfer = s.transfer := rfl
@[simp] theorem State.setGroupLine_ports : (s.setGroupLine g l).ports = s.ports := rfl
@[simp] theorem State.setGroupLine_activeLoop : (s.setGroupLine g l).activeLoop = s.activeLoop := rfl
@[simp] theorem State.setGroupLine_contact : (s.setGroupLine g l).contact = s.contact := rfl
@[simp] theorem State.setGroupLine_snapshot : (s.setGroupLine g l).snapshot = s.snapshot := rfl
@[simp] theorem State.setGroupLine_lastCycle : (s.setGroupLine g l).lastCycle = s.lastCycle := rfl
@[simp] theorem State.setGroupLine_responseLost : (s.setGroupLine g l).responseLost = s.responseLost := rfl
@[simp] theorem State.setGroupLine_staging : (s.setGroupLine g l).staging = s.staging := rfl
@[simp] theorem State.setGroupLine_stagingOwner : (s.setGroupLine g l).stagingOwner = s.stagingOwner := rfl
@[simp] theorem State.setGroupLine_cursors : (s.setGroupLine g l).cursors = s.cursors := rfl
@[simp] theorem State.setGroupLine_pendingLaunch : (s.setGroupLine g l).pendingLaunch = s.pendingLaunch := rfl
@[simp] theorem State.setGroupLine_storeEngine : (s.setGroupLine g l).storeEngine = s.storeEngine := rfl
@[simp] theorem State.setGroupLine_storeTimer : (s.setGroupLine g l).storeTimer = s.storeTimer := rfl
@[simp] theorem State.setGroupLine_saveImage : (s.setGroupLine g l).saveImage = s.saveImage := rfl
@[simp] theorem State.setGroupLine_storeSender : (s.setGroupLine g l).storeSender = s.storeSender := rfl
@[simp] theorem State.setGroupLine_lastSave : (s.setGroupLine g l).lastSave = s.lastSave := rfl
@[simp] theorem State.setGroupLine_tablesFromStore : (s.setGroupLine g l).tablesFromStore = s.tablesFromStore := rfl
@[simp] theorem State.setGroupLine_storeTorn : (s.setGroupLine g l).storeTorn = s.storeTorn := rfl
@[simp] theorem State.setGroupLine_choices : (s.setGroupLine g l).choices = s.choices := rfl
@[simp] theorem State.setGroupLine_pending : (s.setGroupLine g l).pending = s.pending := rfl

end

section
variable (s : State) (l : LoopId) (p : Port)

@[simp] theorem State.setPort_phase : (s.setPort l p).phase = s.phase := rfl
@[simp] theorem State.setPort_straps : (s.setPort l p).straps = s.straps := rfl
@[simp] theorem State.setPort_resetCause : (s.setPort l p).resetCause = s.resetCause := rfl
@[simp] theorem State.setPort_schemeFuse : (s.setPort l p).schemeFuse = s.schemeFuse := rfl
@[simp] theorem State.setPort_tables : (s.setPort l p).tables = s.tables := rfl
@[simp] theorem State.setPort_doors : (s.setPort l p).doors = s.doors := rfl
@[simp] theorem State.setPort_doorLines : (s.setPort l p).doorLines = s.doorLines := rfl
@[simp] theorem State.setPort_groups : (s.setPort l p).groups = s.groups := rfl
@[simp] theorem State.setPort_groupLines : (s.setPort l p).groupLines = s.groupLines := rfl
@[simp] theorem State.setPort_beatOn : (s.setPort l p).beatOn = s.beatOn := rfl
@[simp] theorem State.setPort_beatTimer : (s.setPort l p).beatTimer = s.beatTimer := rfl
@[simp] theorem State.setPort_inhibitSet : (s.setPort l p).inhibitSet = s.inhibitSet := rfl
@[simp] theorem State.setPort_heldHeel : (s.setPort l p).heldHeel = s.heldHeel := rfl
@[simp] theorem State.setPort_plan : (s.setPort l p).plan = s.plan := rfl
@[simp] theorem State.setPort_mode : (s.setPort l p).mode = s.mode := rfl
@[simp] theorem State.setPort_holder : (s.setPort l p).holder = s.holder := rfl
@[simp] theorem State.setPort_transfer : (s.setPort l p).transfer = s.transfer := rfl
@[simp] theorem State.setPort_ports : (s.setPort l p).ports = s.ports.set l p := rfl
@[simp] theorem State.setPort_activeLoop : (s.setPort l p).activeLoop = s.activeLoop := rfl
@[simp] theorem State.setPort_contact : (s.setPort l p).contact = s.contact := rfl
@[simp] theorem State.setPort_snapshot : (s.setPort l p).snapshot = s.snapshot := rfl
@[simp] theorem State.setPort_lastCycle : (s.setPort l p).lastCycle = s.lastCycle := rfl
@[simp] theorem State.setPort_responseLost : (s.setPort l p).responseLost = s.responseLost := rfl
@[simp] theorem State.setPort_staging : (s.setPort l p).staging = s.staging := rfl
@[simp] theorem State.setPort_stagingOwner : (s.setPort l p).stagingOwner = s.stagingOwner := rfl
@[simp] theorem State.setPort_cursors : (s.setPort l p).cursors = s.cursors := rfl
@[simp] theorem State.setPort_pendingLaunch : (s.setPort l p).pendingLaunch = s.pendingLaunch := rfl
@[simp] theorem State.setPort_storeEngine : (s.setPort l p).storeEngine = s.storeEngine := rfl
@[simp] theorem State.setPort_storeTimer : (s.setPort l p).storeTimer = s.storeTimer := rfl
@[simp] theorem State.setPort_saveImage : (s.setPort l p).saveImage = s.saveImage := rfl
@[simp] theorem State.setPort_storeSender : (s.setPort l p).storeSender = s.storeSender := rfl
@[simp] theorem State.setPort_lastSave : (s.setPort l p).lastSave = s.lastSave := rfl
@[simp] theorem State.setPort_tablesFromStore : (s.setPort l p).tablesFromStore = s.tablesFromStore := rfl
@[simp] theorem State.setPort_storeTorn : (s.setPort l p).storeTorn = s.storeTorn := rfl
@[simp] theorem State.setPort_choices : (s.setPort l p).choices = s.choices := rfl
@[simp] theorem State.setPort_pending : (s.setPort l p).pending = s.pending := rfl

end

section
variable (s : State) (h : Word16)

@[simp] theorem State.takeHeel_phase : (s.takeHeel h).phase = s.phase := rfl
@[simp] theorem State.takeHeel_straps : (s.takeHeel h).straps = s.straps := rfl
@[simp] theorem State.takeHeel_resetCause : (s.takeHeel h).resetCause = s.resetCause := rfl
@[simp] theorem State.takeHeel_schemeFuse : (s.takeHeel h).schemeFuse = s.schemeFuse := rfl
@[simp] theorem State.takeHeel_tables : (s.takeHeel h).tables = s.tables := rfl
@[simp] theorem State.takeHeel_doors : (s.takeHeel h).doors = s.doors := rfl
@[simp] theorem State.takeHeel_doorLines : (s.takeHeel h).doorLines = s.doorLines := rfl
@[simp] theorem State.takeHeel_groups : (s.takeHeel h).groups = s.groups := rfl
@[simp] theorem State.takeHeel_groupLines : (s.takeHeel h).groupLines = s.groupLines := rfl
@[simp] theorem State.takeHeel_beatOn : (s.takeHeel h).beatOn = s.beatOn := rfl
@[simp] theorem State.takeHeel_beatTimer : (s.takeHeel h).beatTimer = s.beatTimer := rfl
@[simp] theorem State.takeHeel_inhibitSet : (s.takeHeel h).inhibitSet = s.inhibitSet := rfl
@[simp] theorem State.takeHeel_heldHeel : (s.takeHeel h).heldHeel = clampHeel h.toInt := rfl
@[simp] theorem State.takeHeel_plan : (s.takeHeel h).plan = s.plan := rfl
@[simp] theorem State.takeHeel_mode : (s.takeHeel h).mode = s.mode := rfl
@[simp] theorem State.takeHeel_holder : (s.takeHeel h).holder = s.holder := rfl
@[simp] theorem State.takeHeel_transfer : (s.takeHeel h).transfer = s.transfer := rfl
@[simp] theorem State.takeHeel_ports : (s.takeHeel h).ports = s.ports := rfl
@[simp] theorem State.takeHeel_activeLoop : (s.takeHeel h).activeLoop = s.activeLoop := rfl
@[simp] theorem State.takeHeel_contact : (s.takeHeel h).contact = s.contact := rfl
@[simp] theorem State.takeHeel_snapshot : (s.takeHeel h).snapshot = s.snapshot := rfl
@[simp] theorem State.takeHeel_lastCycle : (s.takeHeel h).lastCycle = s.lastCycle := rfl
@[simp] theorem State.takeHeel_responseLost : (s.takeHeel h).responseLost = s.responseLost := rfl
@[simp] theorem State.takeHeel_staging : (s.takeHeel h).staging = s.staging := rfl
@[simp] theorem State.takeHeel_stagingOwner : (s.takeHeel h).stagingOwner = s.stagingOwner := rfl
@[simp] theorem State.takeHeel_cursors : (s.takeHeel h).cursors = s.cursors := rfl
@[simp] theorem State.takeHeel_pendingLaunch : (s.takeHeel h).pendingLaunch = s.pendingLaunch := rfl
@[simp] theorem State.takeHeel_storeEngine : (s.takeHeel h).storeEngine = s.storeEngine := rfl
@[simp] theorem State.takeHeel_storeTimer : (s.takeHeel h).storeTimer = s.storeTimer := rfl
@[simp] theorem State.takeHeel_saveImage : (s.takeHeel h).saveImage = s.saveImage := rfl
@[simp] theorem State.takeHeel_storeSender : (s.takeHeel h).storeSender = s.storeSender := rfl
@[simp] theorem State.takeHeel_lastSave : (s.takeHeel h).lastSave = s.lastSave := rfl
@[simp] theorem State.takeHeel_tablesFromStore : (s.takeHeel h).tablesFromStore = s.tablesFromStore := rfl
@[simp] theorem State.takeHeel_storeTorn : (s.takeHeel h).storeTorn = s.storeTorn := rfl
@[simp] theorem State.takeHeel_choices : (s.takeHeel h).choices = s.choices := rfl
@[simp] theorem State.takeHeel_pending : (s.takeHeel h).pending = s.pending := rfl

end

section
variable (s : State)

@[simp] theorem State.realignBeat_phase : (s.realignBeat).phase = s.phase := rfl
@[simp] theorem State.realignBeat_straps : (s.realignBeat).straps = s.straps := rfl
@[simp] theorem State.realignBeat_resetCause : (s.realignBeat).resetCause = s.resetCause := rfl
@[simp] theorem State.realignBeat_schemeFuse : (s.realignBeat).schemeFuse = s.schemeFuse := rfl
@[simp] theorem State.realignBeat_tables : (s.realignBeat).tables = s.tables := rfl
@[simp] theorem State.realignBeat_doors : (s.realignBeat).doors = s.doors := rfl
@[simp] theorem State.realignBeat_doorLines : (s.realignBeat).doorLines = s.doorLines := rfl
@[simp] theorem State.realignBeat_groups : (s.realignBeat).groups = s.groups := rfl
@[simp] theorem State.realignBeat_groupLines : (s.realignBeat).groupLines = s.groupLines := rfl
@[simp] theorem State.realignBeat_beatOn : (s.realignBeat).beatOn = true := rfl
@[simp] theorem State.realignBeat_beatTimer : (s.realignBeat).beatTimer = some s.tables.settings.beatHalf := rfl
@[simp] theorem State.realignBeat_inhibitSet : (s.realignBeat).inhibitSet = s.inhibitSet := rfl
@[simp] theorem State.realignBeat_heldHeel : (s.realignBeat).heldHeel = s.heldHeel := rfl
@[simp] theorem State.realignBeat_plan : (s.realignBeat).plan = s.plan := rfl
@[simp] theorem State.realignBeat_mode : (s.realignBeat).mode = s.mode := rfl
@[simp] theorem State.realignBeat_holder : (s.realignBeat).holder = s.holder := rfl
@[simp] theorem State.realignBeat_transfer : (s.realignBeat).transfer = s.transfer := rfl
@[simp] theorem State.realignBeat_ports : (s.realignBeat).ports = s.ports := rfl
@[simp] theorem State.realignBeat_activeLoop : (s.realignBeat).activeLoop = s.activeLoop := rfl
@[simp] theorem State.realignBeat_contact : (s.realignBeat).contact = s.contact := rfl
@[simp] theorem State.realignBeat_snapshot : (s.realignBeat).snapshot = s.snapshot := rfl
@[simp] theorem State.realignBeat_lastCycle : (s.realignBeat).lastCycle = s.lastCycle := rfl
@[simp] theorem State.realignBeat_responseLost : (s.realignBeat).responseLost = s.responseLost := rfl
@[simp] theorem State.realignBeat_staging : (s.realignBeat).staging = s.staging := rfl
@[simp] theorem State.realignBeat_stagingOwner : (s.realignBeat).stagingOwner = s.stagingOwner := rfl
@[simp] theorem State.realignBeat_cursors : (s.realignBeat).cursors = s.cursors := rfl
@[simp] theorem State.realignBeat_pendingLaunch : (s.realignBeat).pendingLaunch = s.pendingLaunch := rfl
@[simp] theorem State.realignBeat_storeEngine : (s.realignBeat).storeEngine = s.storeEngine := rfl
@[simp] theorem State.realignBeat_storeTimer : (s.realignBeat).storeTimer = s.storeTimer := rfl
@[simp] theorem State.realignBeat_saveImage : (s.realignBeat).saveImage = s.saveImage := rfl
@[simp] theorem State.realignBeat_storeSender : (s.realignBeat).storeSender = s.storeSender := rfl
@[simp] theorem State.realignBeat_lastSave : (s.realignBeat).lastSave = s.lastSave := rfl
@[simp] theorem State.realignBeat_tablesFromStore : (s.realignBeat).tablesFromStore = s.tablesFromStore := rfl
@[simp] theorem State.realignBeat_storeTorn : (s.realignBeat).storeTorn = s.storeTorn := rfl
@[simp] theorem State.realignBeat_choices : (s.realignBeat).choices = s.choices := rfl
@[simp] theorem State.realignBeat_pending : (s.realignBeat).pending = s.pending := rfl

end

section
variable (s : State)

@[simp] theorem State.storeIdle_phase : (s.storeIdle).phase = s.phase := rfl
@[simp] theorem State.storeIdle_straps : (s.storeIdle).straps = s.straps := rfl
@[simp] theorem State.storeIdle_resetCause : (s.storeIdle).resetCause = s.resetCause := rfl
@[simp] theorem State.storeIdle_schemeFuse : (s.storeIdle).schemeFuse = s.schemeFuse := rfl
@[simp] theorem State.storeIdle_tables : (s.storeIdle).tables = s.tables := rfl
@[simp] theorem State.storeIdle_doors : (s.storeIdle).doors = s.doors := rfl
@[simp] theorem State.storeIdle_doorLines : (s.storeIdle).doorLines = s.doorLines := rfl
@[simp] theorem State.storeIdle_groups : (s.storeIdle).groups = s.groups := rfl
@[simp] theorem State.storeIdle_groupLines : (s.storeIdle).groupLines = s.groupLines := rfl
@[simp] theorem State.storeIdle_beatOn : (s.storeIdle).beatOn = s.beatOn := rfl
@[simp] theorem State.storeIdle_beatTimer : (s.storeIdle).beatTimer = s.beatTimer := rfl
@[simp] theorem State.storeIdle_inhibitSet : (s.storeIdle).inhibitSet = s.inhibitSet := rfl
@[simp] theorem State.storeIdle_heldHeel : (s.storeIdle).heldHeel = s.heldHeel := rfl
@[simp] theorem State.storeIdle_plan : (s.storeIdle).plan = s.plan := rfl
@[simp] theorem State.storeIdle_mode : (s.storeIdle).mode = s.mode := rfl
@[simp] theorem State.storeIdle_holder : (s.storeIdle).holder = s.holder := rfl
@[simp] theorem State.storeIdle_transfer : (s.storeIdle).transfer = s.transfer := rfl
@[simp] theorem State.storeIdle_ports : (s.storeIdle).ports = s.ports := rfl
@[simp] theorem State.storeIdle_activeLoop : (s.storeIdle).activeLoop = s.activeLoop := rfl
@[simp] theorem State.storeIdle_contact : (s.storeIdle).contact = s.contact := rfl
@[simp] theorem State.storeIdle_snapshot : (s.storeIdle).snapshot = s.snapshot := rfl
@[simp] theorem State.storeIdle_lastCycle : (s.storeIdle).lastCycle = s.lastCycle := rfl
@[simp] theorem State.storeIdle_responseLost : (s.storeIdle).responseLost = s.responseLost := rfl
@[simp] theorem State.storeIdle_staging : (s.storeIdle).staging = s.staging := rfl
@[simp] theorem State.storeIdle_stagingOwner : (s.storeIdle).stagingOwner = s.stagingOwner := rfl
@[simp] theorem State.storeIdle_cursors : (s.storeIdle).cursors = s.cursors := rfl
@[simp] theorem State.storeIdle_pendingLaunch : (s.storeIdle).pendingLaunch = s.pendingLaunch := rfl
@[simp] theorem State.storeIdle_storeEngine : (s.storeIdle).storeEngine = .idle := rfl
@[simp] theorem State.storeIdle_storeTimer : (s.storeIdle).storeTimer = none := rfl
@[simp] theorem State.storeIdle_saveImage : (s.storeIdle).saveImage = none := rfl
@[simp] theorem State.storeIdle_storeSender : (s.storeIdle).storeSender = none := rfl
@[simp] theorem State.storeIdle_lastSave : (s.storeIdle).lastSave = s.lastSave := rfl
@[simp] theorem State.storeIdle_tablesFromStore : (s.storeIdle).tablesFromStore = s.tablesFromStore := rfl
@[simp] theorem State.storeIdle_storeTorn : (s.storeIdle).storeTorn = s.storeTorn := rfl
@[simp] theorem State.storeIdle_choices : (s.storeIdle).choices = s.choices := rfl
@[simp] theorem State.storeIdle_pending : (s.storeIdle).pending = s.pending := rfl

end

section
variable (s : State)

@[simp] theorem State.clearStaging_phase : (s.clearStaging).phase = s.phase := rfl
@[simp] theorem State.clearStaging_straps : (s.clearStaging).straps = s.straps := rfl
@[simp] theorem State.clearStaging_resetCause : (s.clearStaging).resetCause = s.resetCause := rfl
@[simp] theorem State.clearStaging_schemeFuse : (s.clearStaging).schemeFuse = s.schemeFuse := rfl
@[simp] theorem State.clearStaging_tables : (s.clearStaging).tables = s.tables := rfl
@[simp] theorem State.clearStaging_doors : (s.clearStaging).doors = s.doors := rfl
@[simp] theorem State.clearStaging_doorLines : (s.clearStaging).doorLines = s.doorLines := rfl
@[simp] theorem State.clearStaging_groups : (s.clearStaging).groups = s.groups := rfl
@[simp] theorem State.clearStaging_groupLines : (s.clearStaging).groupLines = s.groupLines := rfl
@[simp] theorem State.clearStaging_beatOn : (s.clearStaging).beatOn = s.beatOn := rfl
@[simp] theorem State.clearStaging_beatTimer : (s.clearStaging).beatTimer = s.beatTimer := rfl
@[simp] theorem State.clearStaging_inhibitSet : (s.clearStaging).inhibitSet = s.inhibitSet := rfl
@[simp] theorem State.clearStaging_heldHeel : (s.clearStaging).heldHeel = s.heldHeel := rfl
@[simp] theorem State.clearStaging_plan : (s.clearStaging).plan = s.plan := rfl
@[simp] theorem State.clearStaging_mode : (s.clearStaging).mode = s.mode := rfl
@[simp] theorem State.clearStaging_holder : (s.clearStaging).holder = s.holder := rfl
@[simp] theorem State.clearStaging_transfer : (s.clearStaging).transfer = s.transfer := rfl
@[simp] theorem State.clearStaging_ports : (s.clearStaging).ports = s.ports := rfl
@[simp] theorem State.clearStaging_activeLoop : (s.clearStaging).activeLoop = s.activeLoop := rfl
@[simp] theorem State.clearStaging_contact : (s.clearStaging).contact = s.contact := rfl
@[simp] theorem State.clearStaging_snapshot : (s.clearStaging).snapshot = s.snapshot := rfl
@[simp] theorem State.clearStaging_lastCycle : (s.clearStaging).lastCycle = s.lastCycle := rfl
@[simp] theorem State.clearStaging_responseLost : (s.clearStaging).responseLost = s.responseLost := rfl
@[simp] theorem State.clearStaging_staging : (s.clearStaging).staging = [] := rfl
@[simp] theorem State.clearStaging_stagingOwner : (s.clearStaging).stagingOwner = none := rfl
@[simp] theorem State.clearStaging_cursors : (s.clearStaging).cursors = Cursors.zero := rfl
@[simp] theorem State.clearStaging_pendingLaunch : (s.clearStaging).pendingLaunch = none := rfl
@[simp] theorem State.clearStaging_storeEngine : (s.clearStaging).storeEngine = s.storeEngine := rfl
@[simp] theorem State.clearStaging_storeTimer : (s.clearStaging).storeTimer = s.storeTimer := rfl
@[simp] theorem State.clearStaging_saveImage : (s.clearStaging).saveImage = s.saveImage := rfl
@[simp] theorem State.clearStaging_storeSender : (s.clearStaging).storeSender = s.storeSender := rfl
@[simp] theorem State.clearStaging_lastSave : (s.clearStaging).lastSave = s.lastSave := rfl
@[simp] theorem State.clearStaging_tablesFromStore : (s.clearStaging).tablesFromStore = s.tablesFromStore := rfl
@[simp] theorem State.clearStaging_storeTorn : (s.clearStaging).storeTorn = s.storeTorn := rfl
@[simp] theorem State.clearStaging_choices : (s.clearStaging).choices = s.choices := rfl
@[simp] theorem State.clearStaging_pending : (s.clearStaging).pending = s.pending := rfl

end

section
variable (s : State)

@[simp] theorem State.clearReported_phase : (s.clearReported).phase = s.phase := rfl
@[simp] theorem State.clearReported_straps : (s.clearReported).straps = s.straps := rfl
@[simp] theorem State.clearReported_resetCause : (s.clearReported).resetCause = s.resetCause := rfl
@[simp] theorem State.clearReported_schemeFuse : (s.clearReported).schemeFuse = s.schemeFuse := rfl
@[simp] theorem State.clearReported_tables : (s.clearReported).tables = s.tables := rfl
@[simp] theorem State.clearReported_doors : (s.clearReported).doors = s.doors.map DoorRuntime.clearReportFlags := rfl
@[simp] theorem State.clearReported_doorLines : (s.clearReported).doorLines = s.doorLines := rfl
@[simp] theorem State.clearReported_groups : (s.clearReported).groups = s.groups := rfl
@[simp] theorem State.clearReported_groupLines : (s.clearReported).groupLines = s.groupLines := rfl
@[simp] theorem State.clearReported_beatOn : (s.clearReported).beatOn = s.beatOn := rfl
@[simp] theorem State.clearReported_beatTimer : (s.clearReported).beatTimer = s.beatTimer := rfl
@[simp] theorem State.clearReported_inhibitSet : (s.clearReported).inhibitSet = s.inhibitSet := rfl
@[simp] theorem State.clearReported_heldHeel : (s.clearReported).heldHeel = s.heldHeel := rfl
@[simp] theorem State.clearReported_plan : (s.clearReported).plan = s.plan := rfl
@[simp] theorem State.clearReported_mode : (s.clearReported).mode = s.mode := rfl
@[simp] theorem State.clearReported_holder : (s.clearReported).holder = s.holder := rfl
@[simp] theorem State.clearReported_transfer : (s.clearReported).transfer = s.transfer := rfl
@[simp] theorem State.clearReported_ports :
    (s.clearReported).ports = { a := s.ports.a.clearLosses, b := s.ports.b.clearLosses } := rfl
@[simp] theorem State.clearReported_activeLoop : (s.clearReported).activeLoop = s.activeLoop := rfl
@[simp] theorem State.clearReported_contact : (s.clearReported).contact = s.contact := rfl
@[simp] theorem State.clearReported_snapshot : (s.clearReported).snapshot = s.snapshot := rfl
@[simp] theorem State.clearReported_lastCycle : (s.clearReported).lastCycle = s.lastCycle := rfl
@[simp] theorem State.clearReported_responseLost : (s.clearReported).responseLost = false := rfl
@[simp] theorem State.clearReported_staging : (s.clearReported).staging = s.staging := rfl
@[simp] theorem State.clearReported_stagingOwner : (s.clearReported).stagingOwner = s.stagingOwner := rfl
@[simp] theorem State.clearReported_cursors : (s.clearReported).cursors = s.cursors := rfl
@[simp] theorem State.clearReported_pendingLaunch : (s.clearReported).pendingLaunch = s.pendingLaunch := rfl
@[simp] theorem State.clearReported_storeEngine : (s.clearReported).storeEngine = s.storeEngine := rfl
@[simp] theorem State.clearReported_storeTimer : (s.clearReported).storeTimer = s.storeTimer := rfl
@[simp] theorem State.clearReported_saveImage : (s.clearReported).saveImage = s.saveImage := rfl
@[simp] theorem State.clearReported_storeSender : (s.clearReported).storeSender = s.storeSender := rfl
@[simp] theorem State.clearReported_lastSave : (s.clearReported).lastSave = s.lastSave := rfl
@[simp] theorem State.clearReported_tablesFromStore : (s.clearReported).tablesFromStore = s.tablesFromStore := rfl
@[simp] theorem State.clearReported_storeTorn : (s.clearReported).storeTorn = s.storeTorn := rfl
@[simp] theorem State.clearReported_choices : (s.clearReported).choices = s.choices := rfl
@[simp] theorem State.clearReported_pending : (s.clearReported).pending = s.pending := rfl

end

section
variable (s : State) (x : BitVec 7)

@[simp] theorem State.beginStartUp_phase : (s.beginStartUp x).phase = .loading := rfl
@[simp] theorem State.beginStartUp_straps : (s.beginStartUp x).straps = x := rfl
@[simp] theorem State.beginStartUp_resetCause : (s.beginStartUp x).resetCause = s.resetCause := rfl
@[simp] theorem State.beginStartUp_schemeFuse : (s.beginStartUp x).schemeFuse = s.schemeFuse := rfl
@[simp] theorem State.beginStartUp_tables : (s.beginStartUp x).tables = s.tables := rfl
@[simp] theorem State.beginStartUp_doors : (s.beginStartUp x).doors = s.doors := rfl
@[simp] theorem State.beginStartUp_doorLines : (s.beginStartUp x).doorLines = s.doorLines := rfl
@[simp] theorem State.beginStartUp_groups : (s.beginStartUp x).groups = s.groups := rfl
@[simp] theorem State.beginStartUp_groupLines : (s.beginStartUp x).groupLines = s.groupLines := rfl
@[simp] theorem State.beginStartUp_beatOn : (s.beginStartUp x).beatOn = s.beatOn := rfl
@[simp] theorem State.beginStartUp_beatTimer : (s.beginStartUp x).beatTimer = s.beatTimer := rfl
@[simp] theorem State.beginStartUp_inhibitSet : (s.beginStartUp x).inhibitSet = s.inhibitSet := rfl
@[simp] theorem State.beginStartUp_heldHeel : (s.beginStartUp x).heldHeel = s.heldHeel := rfl
@[simp] theorem State.beginStartUp_plan : (s.beginStartUp x).plan = s.plan := rfl
@[simp] theorem State.beginStartUp_mode : (s.beginStartUp x).mode = s.mode := rfl
@[simp] theorem State.beginStartUp_holder : (s.beginStartUp x).holder = s.holder := rfl
@[simp] theorem State.beginStartUp_transfer : (s.beginStartUp x).transfer = s.transfer := rfl
@[simp] theorem State.beginStartUp_ports : (s.beginStartUp x).ports = s.ports := rfl
@[simp] theorem State.beginStartUp_activeLoop : (s.beginStartUp x).activeLoop = s.activeLoop := rfl
@[simp] theorem State.beginStartUp_contact : (s.beginStartUp x).contact = s.contact := rfl
@[simp] theorem State.beginStartUp_snapshot : (s.beginStartUp x).snapshot = s.snapshot := rfl
@[simp] theorem State.beginStartUp_lastCycle : (s.beginStartUp x).lastCycle = s.lastCycle := rfl
@[simp] theorem State.beginStartUp_responseLost : (s.beginStartUp x).responseLost = s.responseLost := rfl
@[simp] theorem State.beginStartUp_staging : (s.beginStartUp x).staging = s.staging := rfl
@[simp] theorem State.beginStartUp_stagingOwner : (s.beginStartUp x).stagingOwner = s.stagingOwner := rfl
@[simp] theorem State.beginStartUp_cursors : (s.beginStartUp x).cursors = s.cursors := rfl
@[simp] theorem State.beginStartUp_pendingLaunch : (s.beginStartUp x).pendingLaunch = s.pendingLaunch := rfl
@[simp] theorem State.beginStartUp_storeEngine : (s.beginStartUp x).storeEngine = s.storeEngine := rfl
@[simp] theorem State.beginStartUp_storeTimer : (s.beginStartUp x).storeTimer = some Config.loadTime := rfl
@[simp] theorem State.beginStartUp_saveImage : (s.beginStartUp x).saveImage = s.saveImage := rfl
@[simp] theorem State.beginStartUp_storeSender : (s.beginStartUp x).storeSender = s.storeSender := rfl
@[simp] theorem State.beginStartUp_lastSave : (s.beginStartUp x).lastSave = s.lastSave := rfl
@[simp] theorem State.beginStartUp_tablesFromStore : (s.beginStartUp x).tablesFromStore = s.tablesFromStore := rfl
@[simp] theorem State.beginStartUp_storeTorn : (s.beginStartUp x).storeTorn = s.storeTorn := rfl
@[simp] theorem State.beginStartUp_choices : (s.beginStartUp x).choices = s.choices := rfl
@[simp] theorem State.beginStartUp_pending : (s.beginStartUp x).pending = s.pending := rfl

end

section
variable (w : Work) (g : GroupIx)

@[simp] theorem Work.touch_joins : (w.touch g).joins = w.joins := rfl
@[simp] theorem Work.touch_dirty : (w.touch g).dirty = w.dirty ||| groupBit g := rfl
@[simp] theorem Work.touch_due : (w.touch g).due = w.due := rfl
@[simp] theorem Work.touch_check : (w.touch g).check = w.check := rfl
@[simp] theorem Work.touch_ended : (w.touch g).ended = w.ended := rfl

end

section
variable (w : Work) (i : DoorIx)

@[simp] theorem Work.dueReclose_joins : (w.dueReclose i).joins = w.joins := rfl
@[simp] theorem Work.dueReclose_dirty : (w.dueReclose i).dirty = w.dirty := rfl
@[simp] theorem Work.dueReclose_due : (w.dueReclose i).due = w.due ||| doorBit i := rfl
@[simp] theorem Work.dueReclose_check : (w.dueReclose i).check = w.check := rfl
@[simp] theorem Work.dueReclose_ended : (w.dueReclose i).ended = w.ended := rfl

end

section
variable (w : Work)

@[simp] theorem Work.dueAll_joins : (w.dueAll).joins = w.joins := rfl
@[simp] theorem Work.dueAll_dirty : (w.dueAll).dirty = w.dirty := rfl
@[simp] theorem Work.dueAll_due : (w.dueAll).due = BitVec.allOnes 24 := rfl
@[simp] theorem Work.dueAll_check : (w.dueAll).check = w.check := rfl
@[simp] theorem Work.dueAll_ended : (w.dueAll).ended = w.ended := rfl

end

section
variable (w : Work) (p : PlanEngine)

@[simp] theorem Work.setPlan_st_phase : (w.setPlan p).st.phase = w.st.phase := rfl
@[simp] theorem Work.setPlan_st_straps : (w.setPlan p).st.straps = w.st.straps := rfl
@[simp] theorem Work.setPlan_st_resetCause : (w.setPlan p).st.resetCause = w.st.resetCause := rfl
@[simp] theorem Work.setPlan_st_schemeFuse : (w.setPlan p).st.schemeFuse = w.st.schemeFuse := rfl
@[simp] theorem Work.setPlan_st_tables : (w.setPlan p).st.tables = w.st.tables := rfl
@[simp] theorem Work.setPlan_st_doors : (w.setPlan p).st.doors = w.st.doors := rfl
@[simp] theorem Work.setPlan_st_doorLines : (w.setPlan p).st.doorLines = w.st.doorLines := rfl
@[simp] theorem Work.setPlan_st_groups : (w.setPlan p).st.groups = w.st.groups := rfl
@[simp] theorem Work.setPlan_st_groupLines : (w.setPlan p).st.groupLines = w.st.groupLines := rfl
@[simp] theorem Work.setPlan_st_beatOn : (w.setPlan p).st.beatOn = w.st.beatOn := rfl
@[simp] theorem Work.setPlan_st_beatTimer : (w.setPlan p).st.beatTimer = w.st.beatTimer := rfl
@[simp] theorem Work.setPlan_st_inhibitSet : (w.setPlan p).st.inhibitSet = w.st.inhibitSet := rfl
@[simp] theorem Work.setPlan_st_heldHeel : (w.setPlan p).st.heldHeel = w.st.heldHeel := rfl
@[simp] theorem Work.setPlan_st_plan : (w.setPlan p).st.plan = p := rfl
@[simp] theorem Work.setPlan_st_mode : (w.setPlan p).st.mode = w.st.mode := rfl
@[simp] theorem Work.setPlan_st_holder : (w.setPlan p).st.holder = w.st.holder := rfl
@[simp] theorem Work.setPlan_st_transfer : (w.setPlan p).st.transfer = w.st.transfer := rfl
@[simp] theorem Work.setPlan_st_ports : (w.setPlan p).st.ports = w.st.ports := rfl
@[simp] theorem Work.setPlan_st_activeLoop : (w.setPlan p).st.activeLoop = w.st.activeLoop := rfl
@[simp] theorem Work.setPlan_st_contact : (w.setPlan p).st.contact = w.st.contact := rfl
@[simp] theorem Work.setPlan_st_snapshot : (w.setPlan p).st.snapshot = w.st.snapshot := rfl
@[simp] theorem Work.setPlan_st_lastCycle : (w.setPlan p).st.lastCycle = w.st.lastCycle := rfl
@[simp] theorem Work.setPlan_st_responseLost : (w.setPlan p).st.responseLost = w.st.responseLost := rfl
@[simp] theorem Work.setPlan_st_staging : (w.setPlan p).st.staging = w.st.staging := rfl
@[simp] theorem Work.setPlan_st_stagingOwner : (w.setPlan p).st.stagingOwner = w.st.stagingOwner := rfl
@[simp] theorem Work.setPlan_st_cursors : (w.setPlan p).st.cursors = w.st.cursors := rfl
@[simp] theorem Work.setPlan_st_pendingLaunch : (w.setPlan p).st.pendingLaunch = w.st.pendingLaunch := rfl
@[simp] theorem Work.setPlan_st_storeEngine : (w.setPlan p).st.storeEngine = w.st.storeEngine := rfl
@[simp] theorem Work.setPlan_st_storeTimer : (w.setPlan p).st.storeTimer = w.st.storeTimer := rfl
@[simp] theorem Work.setPlan_st_saveImage : (w.setPlan p).st.saveImage = w.st.saveImage := rfl
@[simp] theorem Work.setPlan_st_storeSender : (w.setPlan p).st.storeSender = w.st.storeSender := rfl
@[simp] theorem Work.setPlan_st_lastSave : (w.setPlan p).st.lastSave = w.st.lastSave := rfl
@[simp] theorem Work.setPlan_st_tablesFromStore : (w.setPlan p).st.tablesFromStore = w.st.tablesFromStore := rfl
@[simp] theorem Work.setPlan_st_storeTorn : (w.setPlan p).st.storeTorn = w.st.storeTorn := rfl
@[simp] theorem Work.setPlan_st_choices : (w.setPlan p).st.choices = w.st.choices := rfl
@[simp] theorem Work.setPlan_st_pending : (w.setPlan p).st.pending = w.st.pending := rfl
@[simp] theorem Work.setPlan_joins : (w.setPlan p).joins = w.joins := rfl
@[simp] theorem Work.setPlan_dirty : (w.setPlan p).dirty = w.dirty := rfl
@[simp] theorem Work.setPlan_due : (w.setPlan p).due = w.due := rfl
@[simp] theorem Work.setPlan_check : (w.setPlan p).check = w.check := rfl
@[simp] theorem Work.setPlan_ended : (w.setPlan p).ended = w.ended := rfl

end

section
variable (w : Work) (g : GroupIx) (r : GroupRuntime)

@[simp] theorem Work.setGroup_st_phase : (w.setGroup g r).st.phase = w.st.phase := rfl
@[simp] theorem Work.setGroup_st_straps : (w.setGroup g r).st.straps = w.st.straps := rfl
@[simp] theorem Work.setGroup_st_resetCause : (w.setGroup g r).st.resetCause = w.st.resetCause := rfl
@[simp] theorem Work.setGroup_st_schemeFuse : (w.setGroup g r).st.schemeFuse = w.st.schemeFuse := rfl
@[simp] theorem Work.setGroup_st_tables : (w.setGroup g r).st.tables = w.st.tables := rfl
@[simp] theorem Work.setGroup_st_doors : (w.setGroup g r).st.doors = w.st.doors := rfl
@[simp] theorem Work.setGroup_st_doorLines : (w.setGroup g r).st.doorLines = w.st.doorLines := rfl
@[simp] theorem Work.setGroup_st_groups : (w.setGroup g r).st.groups = upd w.st.groups g r := rfl
@[simp] theorem Work.setGroup_st_groupLines : (w.setGroup g r).st.groupLines = w.st.groupLines := rfl
@[simp] theorem Work.setGroup_st_beatOn : (w.setGroup g r).st.beatOn = w.st.beatOn := rfl
@[simp] theorem Work.setGroup_st_beatTimer : (w.setGroup g r).st.beatTimer = w.st.beatTimer := rfl
@[simp] theorem Work.setGroup_st_inhibitSet : (w.setGroup g r).st.inhibitSet = w.st.inhibitSet := rfl
@[simp] theorem Work.setGroup_st_heldHeel : (w.setGroup g r).st.heldHeel = w.st.heldHeel := rfl
@[simp] theorem Work.setGroup_st_plan : (w.setGroup g r).st.plan = w.st.plan := rfl
@[simp] theorem Work.setGroup_st_mode : (w.setGroup g r).st.mode = w.st.mode := rfl
@[simp] theorem Work.setGroup_st_holder : (w.setGroup g r).st.holder = w.st.holder := rfl
@[simp] theorem Work.setGroup_st_transfer : (w.setGroup g r).st.transfer = w.st.transfer := rfl
@[simp] theorem Work.setGroup_st_ports : (w.setGroup g r).st.ports = w.st.ports := rfl
@[simp] theorem Work.setGroup_st_activeLoop : (w.setGroup g r).st.activeLoop = w.st.activeLoop := rfl
@[simp] theorem Work.setGroup_st_contact : (w.setGroup g r).st.contact = w.st.contact := rfl
@[simp] theorem Work.setGroup_st_snapshot : (w.setGroup g r).st.snapshot = w.st.snapshot := rfl
@[simp] theorem Work.setGroup_st_lastCycle : (w.setGroup g r).st.lastCycle = w.st.lastCycle := rfl
@[simp] theorem Work.setGroup_st_responseLost : (w.setGroup g r).st.responseLost = w.st.responseLost := rfl
@[simp] theorem Work.setGroup_st_staging : (w.setGroup g r).st.staging = w.st.staging := rfl
@[simp] theorem Work.setGroup_st_stagingOwner : (w.setGroup g r).st.stagingOwner = w.st.stagingOwner := rfl
@[simp] theorem Work.setGroup_st_cursors : (w.setGroup g r).st.cursors = w.st.cursors := rfl
@[simp] theorem Work.setGroup_st_pendingLaunch : (w.setGroup g r).st.pendingLaunch = w.st.pendingLaunch := rfl
@[simp] theorem Work.setGroup_st_storeEngine : (w.setGroup g r).st.storeEngine = w.st.storeEngine := rfl
@[simp] theorem Work.setGroup_st_storeTimer : (w.setGroup g r).st.storeTimer = w.st.storeTimer := rfl
@[simp] theorem Work.setGroup_st_saveImage : (w.setGroup g r).st.saveImage = w.st.saveImage := rfl
@[simp] theorem Work.setGroup_st_storeSender : (w.setGroup g r).st.storeSender = w.st.storeSender := rfl
@[simp] theorem Work.setGroup_st_lastSave : (w.setGroup g r).st.lastSave = w.st.lastSave := rfl
@[simp] theorem Work.setGroup_st_tablesFromStore : (w.setGroup g r).st.tablesFromStore = w.st.tablesFromStore := rfl
@[simp] theorem Work.setGroup_st_storeTorn : (w.setGroup g r).st.storeTorn = w.st.storeTorn := rfl
@[simp] theorem Work.setGroup_st_choices : (w.setGroup g r).st.choices = w.st.choices := rfl
@[simp] theorem Work.setGroup_st_pending : (w.setGroup g r).st.pending = w.st.pending := rfl
@[simp] theorem Work.setGroup_joins : (w.setGroup g r).joins = w.joins := rfl
@[simp] theorem Work.setGroup_dirty : (w.setGroup g r).dirty = w.dirty := rfl
@[simp] theorem Work.setGroup_due : (w.setGroup g r).due = w.due := rfl
@[simp] theorem Work.setGroup_check : (w.setGroup g r).check = w.check := rfl
@[simp] theorem Work.setGroup_ended : (w.setGroup g r).ended = w.ended := rfl

end

section
variable (w : Work) (m : Mode)

@[simp] theorem Work.setMode_st_phase : (w.setMode m).st.phase = w.st.phase := rfl
@[simp] theorem Work.setMode_st_straps : (w.setMode m).st.straps = w.st.straps := rfl
@[simp] theorem Work.setMode_st_resetCause : (w.setMode m).st.resetCause = w.st.resetCause := rfl
@[simp] theorem Work.setMode_st_schemeFuse : (w.setMode m).st.schemeFuse = w.st.schemeFuse := rfl
@[simp] theorem Work.setMode_st_tables : (w.setMode m).st.tables = w.st.tables := rfl
@[simp] theorem Work.setMode_st_doors : (w.setMode m).st.doors = w.st.doors := rfl
@[simp] theorem Work.setMode_st_doorLines : (w.setMode m).st.doorLines = w.st.doorLines := rfl
@[simp] theorem Work.setMode_st_groups : (w.setMode m).st.groups = w.st.groups := rfl
@[simp] theorem Work.setMode_st_groupLines : (w.setMode m).st.groupLines = w.st.groupLines := rfl
@[simp] theorem Work.setMode_st_beatOn : (w.setMode m).st.beatOn = w.st.beatOn := rfl
@[simp] theorem Work.setMode_st_beatTimer : (w.setMode m).st.beatTimer = w.st.beatTimer := rfl
@[simp] theorem Work.setMode_st_inhibitSet : (w.setMode m).st.inhibitSet = w.st.inhibitSet := rfl
@[simp] theorem Work.setMode_st_heldHeel : (w.setMode m).st.heldHeel = w.st.heldHeel := rfl
@[simp] theorem Work.setMode_st_plan : (w.setMode m).st.plan = w.st.plan := rfl
@[simp] theorem Work.setMode_st_mode : (w.setMode m).st.mode = m := rfl
@[simp] theorem Work.setMode_st_holder : (w.setMode m).st.holder = w.st.holder := rfl
@[simp] theorem Work.setMode_st_transfer : (w.setMode m).st.transfer = w.st.transfer := rfl
@[simp] theorem Work.setMode_st_ports : (w.setMode m).st.ports = w.st.ports := rfl
@[simp] theorem Work.setMode_st_activeLoop : (w.setMode m).st.activeLoop = w.st.activeLoop := rfl
@[simp] theorem Work.setMode_st_contact : (w.setMode m).st.contact = w.st.contact := rfl
@[simp] theorem Work.setMode_st_snapshot : (w.setMode m).st.snapshot = w.st.snapshot := rfl
@[simp] theorem Work.setMode_st_lastCycle : (w.setMode m).st.lastCycle = w.st.lastCycle := rfl
@[simp] theorem Work.setMode_st_responseLost : (w.setMode m).st.responseLost = w.st.responseLost := rfl
@[simp] theorem Work.setMode_st_staging : (w.setMode m).st.staging = w.st.staging := rfl
@[simp] theorem Work.setMode_st_stagingOwner : (w.setMode m).st.stagingOwner = w.st.stagingOwner := rfl
@[simp] theorem Work.setMode_st_cursors : (w.setMode m).st.cursors = w.st.cursors := rfl
@[simp] theorem Work.setMode_st_pendingLaunch : (w.setMode m).st.pendingLaunch = w.st.pendingLaunch := rfl
@[simp] theorem Work.setMode_st_storeEngine : (w.setMode m).st.storeEngine = w.st.storeEngine := rfl
@[simp] theorem Work.setMode_st_storeTimer : (w.setMode m).st.storeTimer = w.st.storeTimer := rfl
@[simp] theorem Work.setMode_st_saveImage : (w.setMode m).st.saveImage = w.st.saveImage := rfl
@[simp] theorem Work.setMode_st_storeSender : (w.setMode m).st.storeSender = w.st.storeSender := rfl
@[simp] theorem Work.setMode_st_lastSave : (w.setMode m).st.lastSave = w.st.lastSave := rfl
@[simp] theorem Work.setMode_st_tablesFromStore : (w.setMode m).st.tablesFromStore = w.st.tablesFromStore := rfl
@[simp] theorem Work.setMode_st_storeTorn : (w.setMode m).st.storeTorn = w.st.storeTorn := rfl
@[simp] theorem Work.setMode_st_choices : (w.setMode m).st.choices = w.st.choices := rfl
@[simp] theorem Work.setMode_st_pending : (w.setMode m).st.pending = w.st.pending := rfl
@[simp] theorem Work.setMode_joins : (w.setMode m).joins = w.joins := rfl
@[simp] theorem Work.setMode_dirty : (w.setMode m).dirty = w.dirty := rfl
@[simp] theorem Work.setMode_due : (w.setMode m).due = w.due := rfl
@[simp] theorem Work.setMode_check : (w.setMode m).check = w.check := rfl
@[simp] theorem Work.setMode_ended : (w.setMode m).ended = w.ended := rfl

end

section
variable (w : Work) (e : Entry)

@[simp] theorem Work.write_st_phase : (w.write e).st.phase = w.st.phase := rfl
@[simp] theorem Work.write_st_straps : (w.write e).st.straps = w.st.straps := rfl
@[simp] theorem Work.write_st_resetCause : (w.write e).st.resetCause = w.st.resetCause := rfl
@[simp] theorem Work.write_st_schemeFuse : (w.write e).st.schemeFuse = w.st.schemeFuse := rfl
@[simp] theorem Work.write_st_tables : (w.write e).st.tables = writeEntry w.st.tables e := rfl
@[simp] theorem Work.write_st_doors : (w.write e).st.doors = w.st.doors := rfl
@[simp] theorem Work.write_st_doorLines : (w.write e).st.doorLines = w.st.doorLines := rfl
@[simp] theorem Work.write_st_groups : (w.write e).st.groups = w.st.groups := rfl
@[simp] theorem Work.write_st_groupLines : (w.write e).st.groupLines = w.st.groupLines := rfl
@[simp] theorem Work.write_st_beatOn : (w.write e).st.beatOn = w.st.beatOn := rfl
@[simp] theorem Work.write_st_beatTimer : (w.write e).st.beatTimer = w.st.beatTimer := rfl
@[simp] theorem Work.write_st_inhibitSet : (w.write e).st.inhibitSet = w.st.inhibitSet := rfl
@[simp] theorem Work.write_st_heldHeel : (w.write e).st.heldHeel = w.st.heldHeel := rfl
@[simp] theorem Work.write_st_plan : (w.write e).st.plan = w.st.plan := rfl
@[simp] theorem Work.write_st_mode : (w.write e).st.mode = w.st.mode := rfl
@[simp] theorem Work.write_st_holder : (w.write e).st.holder = w.st.holder := rfl
@[simp] theorem Work.write_st_transfer : (w.write e).st.transfer = w.st.transfer := rfl
@[simp] theorem Work.write_st_ports : (w.write e).st.ports = w.st.ports := rfl
@[simp] theorem Work.write_st_activeLoop : (w.write e).st.activeLoop = w.st.activeLoop := rfl
@[simp] theorem Work.write_st_contact : (w.write e).st.contact = w.st.contact := rfl
@[simp] theorem Work.write_st_snapshot : (w.write e).st.snapshot = w.st.snapshot := rfl
@[simp] theorem Work.write_st_lastCycle : (w.write e).st.lastCycle = w.st.lastCycle := rfl
@[simp] theorem Work.write_st_responseLost : (w.write e).st.responseLost = w.st.responseLost := rfl
@[simp] theorem Work.write_st_staging : (w.write e).st.staging = w.st.staging := rfl
@[simp] theorem Work.write_st_stagingOwner : (w.write e).st.stagingOwner = w.st.stagingOwner := rfl
@[simp] theorem Work.write_st_cursors : (w.write e).st.cursors = w.st.cursors := rfl
@[simp] theorem Work.write_st_pendingLaunch : (w.write e).st.pendingLaunch = w.st.pendingLaunch := rfl
@[simp] theorem Work.write_st_storeEngine : (w.write e).st.storeEngine = w.st.storeEngine := rfl
@[simp] theorem Work.write_st_storeTimer : (w.write e).st.storeTimer = w.st.storeTimer := rfl
@[simp] theorem Work.write_st_saveImage : (w.write e).st.saveImage = w.st.saveImage := rfl
@[simp] theorem Work.write_st_storeSender : (w.write e).st.storeSender = w.st.storeSender := rfl
@[simp] theorem Work.write_st_lastSave : (w.write e).st.lastSave = w.st.lastSave := rfl
@[simp] theorem Work.write_st_tablesFromStore : (w.write e).st.tablesFromStore = w.st.tablesFromStore := rfl
@[simp] theorem Work.write_st_storeTorn : (w.write e).st.storeTorn = w.st.storeTorn := rfl
@[simp] theorem Work.write_st_choices : (w.write e).st.choices = w.st.choices := rfl
@[simp] theorem Work.write_st_pending : (w.write e).st.pending = w.st.pending := rfl
@[simp] theorem Work.write_joins : (w.write e).joins = w.joins := rfl
@[simp] theorem Work.write_dirty : (w.write e).dirty = w.dirty := rfl
@[simp] theorem Work.write_due : (w.write e).due = w.due := rfl
@[simp] theorem Work.write_check : (w.write e).check = w.check := rfl
@[simp] theorem Work.write_ended : (w.write e).ended = w.ended := rfl

end

section
variable (w : Work) (n : Slot) (t : OrderTag) (o : OrderOutcome)

@[simp] theorem Work.answer_st : (w.answer n t o).st = w.st.answer n t o := rfl
@[simp] theorem Work.answer_joins : (w.answer n t o).joins = w.joins := rfl
@[simp] theorem Work.answer_dirty : (w.answer n t o).dirty = w.dirty := rfl
@[simp] theorem Work.answer_due : (w.answer n t o).due = w.due := rfl
@[simp] theorem Work.answer_check : (w.answer n t o).check = w.check := rfl
@[simp] theorem Work.answer_ended : (w.answer n t o).ended = w.ended := rfl

end

end Sys2Proof.Machine
end

