-- ==== Sys2Proof/Tests/Slice0.lean ====
section
/-! SUPPORT. Slice0.lean: the model's own tests. First the ill-formed commands, then numbers the manual prints, then one
small step per command, and last, for each statement with hypotheses, a concrete state and operands that meet them. -/

-- One proof is checked after another: proofs that wait for the kernel side by side would each hold a thread.
set_option Elab.async false

namespace Sys2Proof.Tests

open Sys2Proof Sys2Proof.Machine

/-! ## Ill-formed commands (WellFormed.lean) -/

theorem test_wf_refuses_order_from_node : (Instr.doorOrderClose 95#8 0#8).wf = false := by decide
theorem test_wf_refuses_cycle_start_from_104 : (Instr.cycleStart .a 104#8 0#8 0#16).wf = false := by decide
theorem test_wf_refuses_section_order_from_broadcast : (Instr.selectPlan 127#8 0#8).wf = false := by decide
theorem test_wf_refuses_empty_warning_set : (Instr.warningExpiry 0#24).wf = false := by decide
theorem test_wf_refuses_empty_reclose_set : (Instr.recloseExpiry 0#24).wf = false := by decide
theorem test_wf_refuses_empty_deadline_set : (Instr.deadlineExpiry 0#24).wf = false := by decide
theorem test_wf_refuses_too_many_record_bytes :
    (Instr.tableWrite 96#8 .door 0#8 8#8 (List.replicate 238 0#8)).wf = false := by decide +kernel
theorem test_wf_takes_the_edges :
    (Instr.tableWrite 103#8 .door 0#8 8#8 (List.replicate 237 0#8)).wf = true ∧ (Instr.save 96#8).wf = true
      ∧ (Instr.warningExpiry 1#24).wf = true := by decide +kernel

/-! ## Words of the table: no row gives bits -/

theorem test_no_word_spells_a_command : decodeTableWord 8 0 = none ∧ decodeTableWord 0 0 = none := by decide
theorem test_fetch_word_changes_nothing : (State.reset.withFetchWord 8 0).pending = [] := by decide

/-! ## Numbers the manual prints -/

/-- R1: the CRC of the ASCII digits 1 to 9 is 29B1 hex. -/
theorem test_crc_check_value :
    crc [0x31#8, 0x32#8, 0x33#8, 0x34#8, 0x35#8, 0x36#8, 0x37#8, 0x38#8, 0x39#8] = 0x29B1#16 := by decide +kernel

/-- Chapter 4, first example: 4 °C under T_ref 20 and coefficient 48 gives Tf 304. -/
theorem test_tf_of_the_example : temperatureFactor (some 4) 20 48 = 304 := by decide
/-- Chapter 4, last example: Tf saturates at 1023. -/
theorem test_tf_saturates : temperatureFactor (some (-40)) 60 255 = 1023 := by decide
/-- Chapter 4, the example of saturation without heel: E is 4,796. -/
theorem test_e_of_saturation : expectedTime 1200 1023 256 = 4796 := by decide
/-- Chapter 4: the largest E is 19,163, and D is then 4095. -/
theorem test_largest_e : expectedTime 1200 1023 1023 = 19163 ∧ deadlineOf 19163 30 = 4095 := by decide
/-- Chapter 4, first example: E 293 and D 323 closing, E 179 opening downhill. -/
theorem test_e_of_the_example : expectedTime 200 304 315 = 293 ∧ deadlineOf 293 30 = 323 ∧ expectedTime 150 304 256 = 179 := by
  decide
/-- R35: OPEN wins over CLOSE. -/
theorem test_open_wins : resolve .close .open = .open ∧ resolve .none .close = .close := by decide

/-! ## A small section

Door 0 (group 0, load 2) stands CLOSED, door 1 (group 0, load 3) OPEN, door 2 (group 1, sea-open) STOPPED; stations 96 to
98 are enrolled with both rights and station 96 holds the authority; both loops are GOOD 5 tenths into their windows. -/

/-- A present door's record. -/
def doorRow (g : GroupIx) (load : Nat) : DoorRecord :=
  { DoorRecord.empty with present := true, group := g, load := load, closeNominal := 200, openNominal := 150, margin := 30 }

/-- A present group's record. -/
def groupRow : GroupRecord :=
  { GroupRecord.empty with
    present := true, capMain := 4, capEmergency := 3, capAccumulator := 2, tRef := 20, coefficient := 48
    heelLo := 20, heelHi := 150, hMax := 384 }

/-- A valid plan step over a set of doors. -/
def stepRow (doors : DoorSet) (timeout : Nat) (next : Option StepIx) : PlanStep :=
  { valid := true, doors := doors, wait := .closed, timeout := timeout, next := next }

/-- Bank 0: step 0 closes door 1, then step 1, whose doors are none; step 2 is invalid. -/
def bankRow : PlanBank :=
  { header := { valid := true, firstStep := 0, strict := true }
    steps := upd (upd PlanBank.empty.steps 0 (stepRow 2#24 50 (some 1))) 1 (stepRow 0#24 0 none) }

/-- The section's tables. -/
def sectionTables : Tables :=
  let doors := upd (upd (upd Tables.empty.doors 0 (doorRow 0 2)) 1 (doorRow 0 3)) 2
    { doorRow 1 1 with seaOpen := true, localMode := .hold }
  { doors := doors
    groups := upd (upd Tables.empty.groups 0 groupRow) 1 groupRow
    banks := upd Tables.empty.banks 0 bankRow
    stations := upd (upd (upd Tables.empty.stations 0 ⟨true, true, true⟩) 1 ⟨true, true, true⟩) 2 ⟨true, true, true⟩
    settings := { Settings.default with inhibitFirst := 20, inhibitCount := 1 } }

/-- A report with one limit set, or none, and the levels of its sides. -/
def shows (closed opened : Bool) (a : Level) : DoorReport :=
  { closedLimit := closed, openLimit := opened, sideA := a, sideB := .none, handPump := false, unitFault := .none }

/-- The exchange that carries such a report (R207). -/
def reply (closed opened : Bool) (a : Level) : List Byte :=
  withCrc [byteOf (flag closed * 128 + flag opened * 64 + (match a with
    | .none => 0
    | .open => 8
    | .close => 16)), 0#8]

/-- A line whose POLL is outstanding. -/
def polled (line : LineState) : LineControl :=
  { line := line, pollTimer := some 1, replyWait := some 0#8, polling := true, settled := true }

/-- A door at rest. -/
def resting (state : DoorState) : DoorRuntime := DoorRuntime.reset state false

/-- A port with its supervisor GOOD, its window 5 tenths on, and a frame on its transmitter. -/
def portRow : Port :=
  { Port.reset with
    sending := some (.through [1#8])
    sup := { loop := .good, window := some 5, faults := 0, recovery := 0, windowMin := 3, windowMax := 15 } }

/-- The section, running in WORKING mode. -/
def live : State :=
  { State.reset with
    phase := .running
    straps := 5
    tables := sectionTables
    doors := upd (upd (upd State.reset.doors 0 (resting .closed)) 1 (resting .opened)) 2 (resting .stopped)
    doorLines := upd (upd (upd State.reset.doorLines
      0 { ctl := polled .good, held := some (shows true false .none) })
      1 { ctl := polled .good, held := some (shows false true .none) })
      2 { ctl := polled .good, held := some (shows false false .none) }
    groups := State.reset.groups.map (fun g => { g with supply := .main, period := some 100 })
    groupLines := upd State.reset.groupLines 0 { ctl := polled .good, held := none }
    beatTimer := some 5
    holder := some 0
    ports := { a := portRow, b := portRow }
    contact := .connected }

/-- The section with one door's record rewritten. -/
def withDoor (i : DoorIx) (f : DoorRuntime → DoorRuntime) : State := live.setDoor i (f live.doors[i])

/-- The section with the engine on step 0 of bank 0 and door 1 unsettled. -/
def planned (s : State) (engine : EngineState) : State :=
  { s with plan := { s.plan with
    engine := engine, runningBank := some 0, currentStep := some 0, stepTimer := .running 50, visits := 1
    marks := upd s.plan.marks 1 (some .unsettled) } }

/-- The section in SEA mode. -/
def atSea : State := { live with mode := .sea }

/-- Three OPEN doors of group 0 without delays: step 0 admits door 1, step 1 then asks for door 2, door 0 is in no step. -/
def enteringTwice : State :=
  let steps := upd (upd bankRow.steps 0 { stepRow 2#24 50 (some 1) with wait := .admitted }) 1 (stepRow 4#24 50 none)
  { live with
    doors := (live.doors.set 0 (resting .opened)).set 2 (resting .opened)
    tables := { sectionTables with
      doors := upd sectionTables.doors 2 (doorRow 0 2)
      banks := upd sectionTables.banks 0 { bankRow with steps := steps }
      settings := { sectionTables.settings with preWarning := 0, recloseDelay := 0 } } }

/-- A station's record of a staged door, and the section with it staged by station 96. -/
def staged : State := { live with staging := [.door 0 { doorRow 0 2 with margin := 77 }], stagingOwner := some 0 }

/-- The node in start-up, its store image being read. -/
def booting : State := { State.reset with phase := .loading, straps := 5, storeTimer := some 0 }

/-- The state after a command. -/
def after (c : Instr) (s : State) : State :=
  match exec c s with
  | .next t => t
  | .fault _ => s
  | .refused _ => s

/-- The outcomes of the ORDER-RESULTs waiting at port A. -/
def answers (s : State) : List (Slot × OrderOutcome) :=
  s.ports.a.insertion.filterMap (fun f => match f with
    | .orderResult r => some (r.dest, r.outcome)
    | .sectionReport _ _ => none
    | .tableData _ => none)

/-! ## One small step per command -/

/-- R203: cause POWER, and the fuse kept. -/
theorem test_power_up : (after (.powerUp 9#7) { live with schemeFuse := true }).schemeFuse = true
    ∧ (after (.powerUp 9#7) live).straps = 9#7 ∧ (after (.powerUp 9#7) live).phase = .loading := by decide +kernel
/-- R203: cause LINE; a SAVE cut short leaves a torn image (R200). -/
theorem test_reset_line : (after .resetLineAssert live).resetCause = .line
    ∧ (after .resetLineAssert { live with storeEngine := .saving }).storeTorn = true := by decide +kernel
/-- R202: the load is started at the release. -/
theorem test_reset_release : (after (.resetLineRelease 4#7) State.reset).storeTimer = some 10 := by decide +kernel
/-- R185: a bad image leaves the empty tables. -/
theorem test_bad_image : (after (.startupLoadComplete [1#8]) booting).tables = Tables.empty
    ∧ (after (.startupLoadComplete [1#8]) booting).tablesFromStore = false := by decide +kernel
theorem test_load_timeout : (after .startupLoadTimeout booting).phase = .settling := by decide +kernel
/-- R151: with no line present start-up ends at once, and both windows start. -/
theorem test_start_up_end : (after .startUpEnd { booting with phase := .settling }).phase = .running
    ∧ ((after .startUpEnd { booting with phase := .settling }).supervisor .b).window = some 0 := by decide +kernel
/-- R156: a frame for another node joins the forward buffer. -/
theorem test_frame_passed_on :
    (after (.loopFrameArrival .a (frameBytes 9 96 2 0 [0#8, 1#8])) live).ports.a.forward.length = 1 := by decide +kernel
/-- R155: a damaged frame is counted. -/
theorem test_frame_damaged : (after (.loopFrameArrival .b [1#8, 2#8]) live).ports.b.badFrames = 1 := by decide +kernel
/-- R74: a heel of 400 tenths is held as 300. -/
theorem test_heel_clamps : clampHeel (400#16 : Word16).toInt = 300 ∧ clampHeel (0xF000#16 : Word16).toInt = -300 := by
  decide +kernel
/-- R164, R166: a timely cycle start on the loop that is not active only restarts its window. -/
theorem test_cycle_start_elsewhere : ((after (.cycleStart .b 96#8 7#8 400#16) live).supervisor .b).window = some 0
    ∧ (after (.cycleStart .b 96#8 7#8 400#16) live).heldHeel = 0 := by decide +kernel
/-- R164: before the window minimum a cycle start is early. -/
theorem test_cycle_start_early :
    ((after (.cycleStart .a 96#8 7#8 0#16) (live.setSupervisor .a { portRow.sup with window := some 2 })).supervisor .a).faults
      = 1 := by decide +kernel
/-- R165: the third fault in a row loses the loop, and the other one takes over (R168). -/
theorem test_window_expiry :
    (after (.windowExpiry .a) (live.setSupervisor .a { portRow.sup with window := some 15, faults := 2 })).activeLoop = .b := by
  decide +kernel
/-- R162: at fairness 8 an own frame goes before one passed on. -/
theorem test_transmit_end :
    (after (.transmitEnd .a) (live.setPort .a { portRow with
      forward := [[7#8]], insertion := [.sectionReport 1 live.snapshotNow], fairness := 8 })).ports.a.fairness = 0 := by
  decide +kernel
/-- R207: drive CLOSE, warning MOVING and the beat ON make 68 hex. -/
theorem test_line_poll :
    ((after (.linePoll (.door 0)) ((withDoor 0 (fun d => { d with state := .closing })).setDoorLine 0
      { ctl := { polled .good with pollTimer := some 0 }, held := none })).doorLines[(0 : DoorIx)]).ctl.replyWait
      = some 0x68#8 := by decide +kernel
/-- R39, R62: a local OPEN of a CLOSED door with room in its group starts it. -/
theorem test_door_report : ((after (.doorReportArrival 0 (reply true false .open)) live).doors[(0 : DoorIx)]).state = .opening
    ∧ ((after (.doorReportArrival 0 (reply true false .open)) live).groups[(0 : GroupIx)]).inUse = 2 := by decide +kernel
/-- R56, R76: supply EMERGENCY and 24 °C. -/
theorem test_group_report :
    ((after (.groupReportArrival 0 (withCrc [0x60#8, 24#8])) live).groups[(0 : GroupIx)]).supply = .emergency
    ∧ ((after (.groupReportArrival 0 (withCrc [0x60#8, 24#8])) live).groups[(0 : GroupIx)]).heldTemp = some 24 := by
  decide +kernel
/-- R142: GOOD to MISSED(1). -/
theorem test_reply_timeout :
    ((after (.lineReplyTimeout (.door 0)) live).doorLines[(0 : DoorIx)]).ctl.line = .missed1 := by decide +kernel
/-- R12, R63, R84: the warning over, the door is admitted with E = 200 and D = 230. -/
theorem test_warning_expiry :
    ((after (.warningExpiry 2#24) (withDoor 1 (fun d => { d with state := .warning, timer := some 0 }))).doors[(1 : DoorIx)]).deadline
      = { running := true, value := 230 } := by decide +kernel
/-- R31: the delay over, the door is warned with origin RECLOSE. -/
theorem test_reclose_expiry :
    ((after (.recloseExpiry 2#24) (withDoor 1 (fun d => { d with state := .recloseWait, timer := some 0 }))).doors[(1 : DoorIx)]).origin
      = .reclose := by decide +kernel
/-- R15: CLOSE-OVERTIME. -/
theorem test_deadline_expiry :
    ((after (.deadlineExpiry 2#24) (withDoor 1 (fun d => { d with
      state := .closing, deadline := { running := true, value := 0 }, heldLoad := some (0, 3) }))).doors[(1 : DoorIx)]).faultCause
      = .closeOvertime := by decide +kernel
theorem test_beat : (after .beatTimerExpiry { live with beatTimer := some 0 }).beatOn = false := by decide +kernel
/-- R79: 4 °C gives Tf 304. -/
theorem test_compensation :
    ((after (.compensationExpiry 0) (live.setGroup 0 { live.groups[(0 : GroupIx)] with
      heldTemp := some 4, period := some 0 })).groups[(0 : GroupIx)]).tf = 304 := by decide +kernel
/-- R104: OVERRUN, and the next step, with no door, completes at its entry. -/
theorem test_step_timer :
    (after .stepTimerExpiry { planned atSea (.running 0) with plan :=
      { (planned atSea (.running 0)).plan with stepTimer := .running 0 } }).plan.result.overrun = true
    ∧ (after .stepTimerExpiry { planned atSea (.running 0) with plan :=
      { (planned atSea (.running 0)).plan with stepTimer := .running 0 } }).plan.engine = .done := by decide +kernel
/-- R133: TIMEOUT to the requester. -/
theorem test_transfer_timer :
    answers (after .transferTimerExpiry { live with transfer := some { requester := 1, timer := 0 } }) = [(1, .timeout)] := by
  decide +kernel
/-- R200: a failed write is answered STORE-FAULT. -/
theorem test_save_fails :
    answers (after (.saveComplete .failed) { live with storeEngine := .saving, storeSender := some 1 }) = [(1, .storeFault)] := by
  decide +kernel
theorem test_save_timeout :
    (after .saveTimeout { live with storeEngine := .saving, storeTimer := some 0 }).lastSave = .writeFault := by
  decide +kernel
/-- R201: a bad image is answered STORE-FAULT. -/
theorem test_load_fails :
    answers (after (.loadStoreComplete [1#8]) { live with storeEngine := .loading, storeSender := some 2 }) = [(2, .storeFault)] := by
  decide +kernel
theorem test_load_store_timeout :
    (after .loadStoreTimeout { live with storeEngine := .loading, storeTimer := some 0 }).storeEngine = .idle := by
  decide +kernel
/-- R203: the reset waits for the DONE of the RESTART. -/
theorem test_restart_reset :
    (after (.restartReset 8#7) { live with phase := .restartWait true true }).resetCause = .order
    ∧ (after (.restartReset 8#7) { live with
        phase := .restartWait true false
        ports := { a := { portRow with insertion := [.sectionReport 1 live.snapshotNow] }, b := portRow } }).resetCause
      = .power := by decide +kernel
/-- R11: an OPEN door is warned for its 50 tenths. -/
theorem test_close : ((after (.doorOrderClose 97#8 1#8) live).doors[(1 : DoorIx)]).timer = some 50
    ∧ answers (after (.doorOrderClose 97#8 1#8) live) = [(1, .done)] := by decide +kernel
/-- R27: a CLOSED door is opened; in SEA mode without permission it is BAD-MODE. -/
theorem test_open : ((after (.doorOrderOpen 96#8 0#8) live).doors[(0 : DoorIx)]).state = .opening
    ∧ answers (after (.doorOrderOpen 96#8 0#8) atSea) = [(0, .badMode)] := by decide +kernel
/-- R28: a warning door comes to rest at its held report. -/
theorem test_stop :
    ((after (.doorOrderStop 96#8 1#8) (withDoor 1 (fun d => { d with state := .warning, timer := some 9 }))).doors[(1 : DoorIx)]).state
      = .opened := by decide +kernel
/-- R29: an overtime fault clears. -/
theorem test_ack :
    ((after (.doorOrderAck 98#8 1#8) (withDoor 1 (fun d => { d with
      state := .fault, faultCause := .closeOvertime, faultLatched := true }))).doors[(1 : DoorIx)]).state = .opened := by
  decide +kernel
/-- R50: BAD-SCHEME in the RANGE scheme. -/
theorem test_inhibit : answers (after (.doorOrderInhibit 96#8 0#8) live) = [(0, .badScheme)] := by decide +kernel
/-- R50: a released door is no longer inhibited. -/
theorem test_release :
    ((after (.doorOrderRelease 96#8 0#8) { live with schemeFuse := true }).doors[(0 : DoorIx)]).inhibited = false
    ∧ ((after (.doorOrderRelease 96#8 0#8) { live with schemeFuse := true }).doors[(1 : DoorIx)]).inhibited = true := by
  decide +kernel
/-- R124: the plan warns door 1, and the sea reclose rule takes door 2, which no step has in hand (R30). -/
theorem test_sea : ((after (.setModeSea 98#8) live).doors[(1 : DoorIx)]).origin = .plan
    ∧ ((after (.setModeSea 98#8) live).doors[(2 : DoorIx)]).state = .recloseWait := by decide +kernel
/-- R96: the entries of steps 0 and 1, the second after door 1's admission, come before the sea reclose rule takes door 0, so
door 2's claim stands before door 0's though its index is higher. -/
theorem test_sea_entries_first :
    (let t := after (.setModeSea 98#8) enteringTwice
    (t.doors[(1 : DoorIx)].state, t.groups[(0 : GroupIx)].queue.map Claim.door)) = (.closing, [2, 0]) := by decide +kernel
theorem test_working : (after (.setModeWorking 96#8) (planned atSea (.running 0))).plan.result.aborted = true := by
  decide +kernel
theorem test_rerun : (after (.rerun 97#8) atSea).plan.engine = .running 0
    ∧ answers (after (.rerun 97#8) live) = [(1, .badMode)] := by decide +kernel
theorem test_suspend : (after (.suspend 96#8) (planned atSea (.running 0))).plan.stepTimer = .frozen 50 := by decide +kernel
theorem test_resume :
    (after (.resume 96#8) { planned atSea (.suspended 0) with plan :=
      { (planned atSea (.suspended 0)).plan with stepTimer := .frozen 7 } }).plan.stepTimer = .running 7 := by decide +kernel
theorem test_select_plan : (after (.selectPlan 96#8 1#8) live).tables.settings.activeBank = 1
    ∧ answers (after (.selectPlan 96#8 2#8) live) = [(0, .range)] := by decide +kernel
theorem test_auth_request : (after (.authRequest 97#8) live).transfer = some { requester := 1, timer := 300 } := by
  decide +kernel
theorem test_auth_request_forced : (after (.authRequestForced 98#8) live).holder = some 2 := by decide +kernel
/-- R131: the pending requester is granted the authority after the sender's DONE. -/
theorem test_auth_release :
    answers (after (.authRelease 96#8) { live with transfer := some { requester := 2, timer := 4 } })
      = [(0, .done), (2, .granted)] := by decide +kernel
theorem test_auth_deny : answers (after (.authDeny 97#8) live) = [(1, .notHolder)] := by decide +kernel
/-- R188 to R190: a staged record, its owner and its cursor. -/
theorem test_table_write : (after (.tableWrite 97#8 .station 5#8 1#8 [0xE0#8]) live).cursors.station = 6
    ∧ (after (.tableWrite 97#8 .station 5#8 1#8 [0xE0#8]) live).stagingOwner = some 1 := by decide +kernel
/-- R195: the staged record is live and the area empty. -/
theorem test_launch_now : ((after (.launchNow 96#8) staged).tables.doors[(0 : DoorIx)]).margin = 77
    ∧ (after (.launchNow 96#8) staged).staging = [] := by decide +kernel
theorem test_launch_at_cycle : (after (.launchAtCycle 96#8) staged).pendingLaunch.map PendingLaunch.mode = some .atCycle
    ∧ answers (after (.launchAtCycle 97#8) staged) = [(1, .stagingOwned)] := by decide +kernel
theorem test_discard : (after (.discard 98#8) staged).stagingOwner = none := by decide +kernel
/-- R208: a station record enrolled with both rights is E0 hex, one that is absent 00. -/
theorem test_table_read : recordsBytes live.tables .station 2 2 = [0xE0#8, 0#8]
    ∧ (after (.tableRead 96#8 .station 2#8 2#8) live).ports.b.insertion.length = 1 := by decide +kernel
theorem test_save : (after (.save 97#8) live).storeTimer = some 40 ∧ answers (after (.save 97#8) live) = [] := by
  decide +kernel
theorem test_load_store : (after (.loadStore 97#8) live).storeTimer = some 10
    ∧ answers (after (.loadStore 97#8) staged) = [(1, .stagingOwned)] := by decide +kernel
theorem test_fix_scheme : ((after (.fixScheme 97#8) live).doors[(0 : DoorIx)]).inhibited = true
    ∧ (after (.fixScheme 97#8) live).schemeFuse = true := by decide +kernel
theorem test_restart : (after (.restart 97#8) live).phase = .restartWait true true := by decide +kernel
/-- An idle node runs its own expired timer before it lets a tenth pass (log entry 4). -/
theorem test_idle : (match step
      { live with
        beatTimer := some 0
        doorLines := State.reset.doorLines
        groupLines := State.reset.groupLines } with
    | .next t => t.beatOn
    | .fault _ => true
    | .refused _ => true) = false := by decide +kernel

/-! ## States and operands that meet the statements' hypotheses

One theorem per statement; each conjunct meets the hypotheses of one clause, at the edge of its range where it has one. -/

/-- Door 1 with an outstanding POLL and a record of the test's choosing. -/
def door1 (f : DoorRuntime → DoorRuntime) : State := withDoor 1 f

/-- Door 1 travelling with 3 load units held against group 0. -/
def travelling (state : DoorState) : State :=
  (withDoor 1 (fun d => { d with
    state := state, heldLoad := some (0, 3), deadline := { running := true, value := 9 }
    travel := { running := true, value := 201 }, expected := 200 })).setGroup 0
    { live.groups[(0 : GroupIx)] with inUse := 3 }

/-- Group 0 full, with a claim of door 1 that waits in its queue. -/
def crowded (dir : Dir) (s : State) : State :=
  (s.setDoor 1 { s.doors[(1 : DoorIx)] with state := .queued, queuedDir := dir }).setGroup 0
    { s.groups[(0 : GroupIx)] with inUse := 4, queue := [{ door := 1, dir := dir }] }

/-- No group of a state has a claim waiting. -/
theorem nobody_waits {s : State} (h : ∀ g : GroupIx, s.groups[g].queue = []) (d : DoorRuntime) : s.NobodyWaitsFor d :=
  fun g _ _ => h g

/-- A condition on the head of a list, from the head it has. -/
theorem on_head {P : Claim → Prop} {q : List Claim} {x : Claim} (h : q.head? = some x) (hx : P x) :
    ∀ c : Claim, q.head? = some c → P c := by
  intro c hc
  rw [h] at hc
  cases hc
  exact hx

/-- Group 0 full, door 1's claim at the head of its queue and door 0's behind it. -/
def followed (dir : Dir) : State :=
  ((crowded dir live).setDoor 0 { live.doors[(0 : DoorIx)] with state := .queued, queuedDir := dir }).setGroup 0
    { live.groups[(0 : GroupIx)] with inUse := 4, queue := [{ door := 1, dir := dir }, { door := 0, dir := dir }] }

/-- Door 0's claim does not fit when door 1's leaves. -/
theorem followed_gains (dir : Dir) : (followed dir).NobodyGains 1 :=
  ⟨fun h => absurd h (by cases dir <;> decide +kernel), fun _ _ =>
    on_head (x := { door := 0, dir := dir }) (by cases dir <;> decide +kernel) (by cases dir <;> decide +kernel)⟩

/-- Nobody waits for the load of a door that closes or opens alone. -/
theorem travelling_gains {state : DoorState} (h : state = .closing ∨ state = .opening) :
    (travelling state).NobodyGains 1 :=
  ⟨fun _ => nobody_waits (by rcases h with rfl | rfl <;> decide +kernel) _, fun hq =>
    absurd hq (by rcases h with rfl | rfl <;> decide +kernel)⟩

/-- Group 0 on its accumulator, where door 1's load fits in no direction. -/
def weak (s : State) : State := s.setGroup 0 { s.groups[(0 : GroupIx)] with supply := .accumulator }

/-- A running step that waits for doors 0 and 1. -/
def pairPlanned (s : State) : State :=
  let p := planned s (.running 0)
  { p with plan := { p.plan with marks := upd p.plan.marks 0 (some .unsettled) } }

/-- The running step waits for door 1 alone, or for another door too. -/
abbrev AwaitsDoor1 (s : State) : Prop :=
  ((planned s (.running 0)).plan.engine = .running 0 ∧ (planned s (.running 0)).pendingLaunch = none
    ∧ (planned s (.running 0)).plan.marks[(1 : DoorIx)] = some .unsettled
    ∧ (∀ j : DoorIx, j ≠ 1 → (planned s (.running 0)).plan.marks[j] ≠ some .unsettled)
    ∧ (planned s (.running 0)).plan.runningBank = some 0 ∧ (planned s (.running 0)).tables.banks[(0 : BankIx)] = bankRow)
  ∧ (pairPlanned s).plan.engine = .running 0 ∧ (pairPlanned s).plan.marks[(1 : DoorIx)] = some .unsettled
  ∧ ∃ j : DoorIx, j ≠ 1 ∧ (pairPlanned s).plan.marks[j] = some .unsettled

/-- The section with a second step that closes door 2. -/
def onward (s : State) : State :=
  { s with tables := { s.tables with
    banks := upd s.tables.banks 0 { bankRow with steps := upd bankRow.steps 1 (stepRow 4#24 50 none) } } }

/-- A completed step's link leads to a step that waits, wherever door 1 has come to. -/
theorem witness_Links : ∀ x ∈ [DoorState.closed, .opened, .fault, .unknown, .closing],
    let u := onward (planned (withDoor 1 (fun d => { d with state := x })) (.running 0))
    let steps := u.tables.banks[(0 : BankIx)].steps
    steps[(0 : StepIx)].next = some 1 ∧ steps[(1 : StepIx)].valid = true ∧ u.plan.visits < 16
    ∧ u.EntryWaits steps[(1 : StepIx)] := by decide +kernel

/-- A door line of the section with a rewritten controller. -/
def withLine (line : LineState) (wait : Option Byte) (s : State) : State :=
  s.setDoorLine 1 { ctl := { polled line with replyWait := wait }, held := some (shows false true .none) }

/-- A group line of the section with a rewritten controller. -/
def withGroupLine (line : LineState) (s : State) : State := s.setGroupLine 0 { ctl := polled line, held := none }

/-- The section's node back in start-up. -/
def starting (s : State) : State := { s with phase := .settling }

/-- The node in start-up with every first POLL settled but door 0's. -/
def almostReady : State :=
  (starting live).setDoorLine 0 { ctl := { polled .lost with settled := false }, held := none }

theorem witness_ResetsAndRelease :
    State.reset.phase = .inReset ∧ live.phase ≠ .inReset
    ∧ (∀ inA inB : Bool, live.phase ≠ .restartWait inA inB)
    ∧ ((true = true → live.ports.a.insertion = []) ∧ (true = true → live.ports.b.insertion = []))
    ∧ ({ portRow with insertion := [.sectionReport 1 live.snapshotNow] } : Port).insertion ≠ [] := by decide +kernel

set_option maxRecDepth 20000 in
theorem witness_StartUpLoadPlacesTables :
    booting.phase = .loading ∧ booting.storeTorn = false ∧ (goodImage (imageBytes sectionTables)).isSome = true
    ∧ goodImage [] = none ∧ booting.storeTimer = some 0 := by decide +kernel

theorem witness_StartUpEnds :
    ((starting live).phase = .settling ∧ (starting live).pendingLaunch = none
      ∧ (∀ i : DoorIx, (starting live).doorLines[i].ctl.polling = true → (starting live).doorLines[i].ctl.settled = true)
      ∧ (∀ g : GroupIx, (starting live).groupLines[g].ctl.polling = true → (starting live).groupLines[g].ctl.settled = true)
      ∧ (starting live).tables.groups[(1 : GroupIx)].present = true
      ∧ (starting live).groupLines[(1 : GroupIx)].ctl.line ≠ .good)
    ∧ live.phase ≠ .settling
    ∧ (∃ i : DoorIx, almostReady.doorLines[i].ctl.polling = true ∧ almostReady.doorLines[i].ctl.settled = false) := by
  decide +kernel

theorem witness_FrameCheck :
    (frameOfBytes (frameBytes 5 96 2 0 [0#8, 1#8])).isSome = true ∧ frameOfBytes [] = none := by decide +kernel

/-- A port holding `n` frames to pass on. -/
def holding (n : Nat) : State := live.setPort .a { portRow with forward := List.replicate n [1#8] }

theorem witness_FrameFate :
    State.reset.phase = .inReset ∧ live.phase ≠ .inReset ∧ frameOfBytes [1#8] = none
    ∧ 3 ≤ (holding 3).ports.a.forward.length ∧ (holding 2).ports.a.forward.length < 3
    ∧ ({ live with straps := 96#7 }).ownAddress = none ∧ live.ownAddress = some 5
    ∧ frameOfBytes (frameBytes 5 5 2 0 []) = some { dest := 5#8, src := 5#8, kind := 2#8, cycle := 0#8, payload := [] }
    ∧ frameOfBytes (frameBytes 9 96 2 0 []) = some { dest := 9#8, src := 96#8, kind := 2#8, cycle := 0#8, payload := [] }
    ∧ frameOfBytes (frameBytes 5 96 2 0 []) = some { dest := 5#8, src := 96#8, kind := 2#8, cycle := 0#8, payload := [] }
    ∧ (starting live).phase ≠ .running ∧ (starting live).ownAddress = some 5 := by decide +kernel

theorem witness_FrameDoesAsItsRow :
    (Instr.doorOrderStop 96#8 1#8).wf = true ∧ live.ownAddress = some 5 ∧ live.phase ≠ .inReset
    ∧ (frameOf 5 0#8 (.doorOrderStop 96#8 1#8)).isSome = true ∧ LoopId.a = live.activeLoop ∧ LoopId.b ≠ live.activeLoop
    ∧ (Instr.cycleStart .b 103#8 7#8 0#16).wf = true ∧ (frameOf 5 0#8 (.cycleStart .b 103#8 7#8 0#16)).isSome = true := by
  decide +kernel

theorem witness_BroadcastFrame :
    live.phase ≠ .inReset ∧ live.ownAddress = some 5
    ∧ frameOfBytes (frameBytes 127 96 2 0 []) = some { dest := 127#8, src := 96#8, kind := 2#8, cycle := 0#8, payload := [] }
    ∧ (96#8 : Byte).toNat ≠ 5 ∧ (127#8 : Byte).toNat = 127 := by decide +kernel

/-- A port with frames waiting in both buffers. -/
def busyPort (fairness : Nat) : Port :=
  { portRow with forward := [[1#8]], insertion := [.sectionReport 1 live.snapshotNow], fairness := fairness }

theorem witness_TransmitEndArbitrates :
    Port.reset.sending = none ∧ (busyPort 8).sending ≠ none
    ∧ (busyPort 8).forward = [1#8] :: [] ∧ (busyPort 8).insertion = .sectionReport 1 live.snapshotNow :: []
    ∧ 8 ≤ (busyPort 8).fairness ∧ (busyPort 7).fairness < 8
    ∧ (portRow.forward = [] ∧ portRow.insertion = [] ∧ portRow.sending ≠ none) := by decide +kernel

theorem witness_ResultsAndReportsPlaced :
    (starting live).actsOnFrames = false ∧ live.actsOnFrames = true
    ∧ 4 ≤ ({ portRow with insertion := List.replicate 4 (.sectionReport 1 live.snapshotNow) } : Port).insertion.length
    ∧ (portRow.insertion.length < 4 ∧ portRow.sending ≠ none)
    ∧ (Port.reset.forward = [] ∧ Port.reset.insertion = [] ∧ Port.reset.sending = none)
    ∧ (busyPort 0).insertion = [] ++ .sectionReport 1 live.snapshotNow :: []
    ∧ (NodeFrame.sectionReport 1 live.snapshotNow).isReport = true
    ∧ (∀ x ∈ portRow.insertion, x.isReport = false) := by decide +kernel

/-- The section with loop A's supervisor rewritten. -/
def withWindow (t faults : Nat) (loop : LoopState) : State :=
  live.setSupervisor .a { portRow.sup with window := some t, faults := faults, loop := loop }

theorem witness_WindowFaultCounted :
    ((withWindow 2 1 .good).supervisor .a).window = some 2 ∧ ((withWindow 2 1 .good).supervisor .a).faults + 1 < 3
    ∧ (withWindow 2 1 .good).actsOnFrames = true ∧ isStation 96#8 = true ∧ 2 < ((withWindow 2 1 .good).supervisor .a).windowMin
    ∧ ((withWindow 2 3 .lost).supervisor .a).loop = .lost
    ∧ ((withWindow 15 1 .good).supervisor .a).windowMax ≤ 15 ∧ 14 < ((withWindow 14 1 .good).supervisor .a).windowMax := by
  decide +kernel

theorem witness_LoopLost :
    ((withWindow 15 2 .good).supervisor .a).window = some 15 ∧ ((withWindow 15 2 .good).supervisor .a).windowMax ≤ 15
    ∧ ((withWindow 15 2 .good).supervisor .a).loop ≠ .lost
    ∧ (withWindow 15 2 .good).tables.settings.lossLimit ≤ ((withWindow 15 2 .good).supervisor .a).faults + 1
    ∧ (withWindow 15 2 .good).tables.settings.isolation = .hold := by decide +kernel

/-- The section about to be isolated, the isolation action CLOSE. -/
def isolating (s : State) : State :=
  { (s.setSupervisor .a { portRow.sup with window := some 15, faults := 2 }).setSupervisor .b
      { portRow.sup with loop := .lost, faults := 3 } with
    tables := { sectionTables with settings := { sectionTables.settings with isolation := .close } } }

theorem witness_IsolationCloses :
    ((isolating live).supervisor .a).window = some 15 ∧ ((isolating live).supervisor .a).windowMax ≤ 15
    ∧ ((isolating live).supervisor .a).loop ≠ .lost
    ∧ (isolating live).tables.settings.lossLimit ≤ ((isolating live).supervisor .a).faults + 1
    ∧ (isolating live).tables.settings.isolation = .close ∧ ((isolating live).supervisor (otherLoop .a)).loop = .lost
    ∧ (isolating live).contact ≠ .isolated ∧ (isolating live).mode = .working ∧ (isolating live).pendingLaunch = none
    ∧ (isolating (planned atSea (.running 0))).mode = .sea
    ∧ (isolating (planned atSea (.running 0))).plan.engine.inRun = true
    ∧ (isolating atSea).mode = .sea ∧ (isolating atSea).plan.engine.inRun = false
    ∧ (isolating atSea).pendingLaunch = none ∧ sectionTables.settings.activeBank = 0 ∧ bankRow.header.valid = true
    ∧ bankRow.header.firstStep = (0 : StepIx).val ∧ bankRow.steps[(0 : StepIx)].valid = true
    ∧ (∀ i : DoorIx, (isolating live).doors[i].state ≠ .opening ∧ (isolating live).doors[i].state ≠ .queued) := by decide +kernel

/-- The section's run enters its first step, door 1 OPEN, and waits there, however the run starts. -/
theorem witness_EntersFirst : ∀ s ∈ [live.toSea, atSea, (isolating live).toSea, isolating atSea], s.EntersFirst 0 := by
  decide +kernel

/-- A loop's window at its minimum meets a cycle start that is timely. -/
theorem timely_edge (l : LoopId) (loop : LoopState) (recovery : Nat) (s : State) (h : s.actsOnFrames = true) :
    (s.setSupervisor l { portRow.sup with window := some 3, loop := loop, recovery := recovery }).Timely l 103#8 := by
  refine ⟨?_, by decide, 3, ?_⟩
  · exact h
  · cases l <;> exact ⟨rfl, Nat.le_refl 3⟩

theorem witness_TimelyCycleStartElsewhere :
    live.actsOnFrames = true ∧ live.Timely .b 96#8 ∧ LoopId.b ≠ live.activeLoop ∧ (live.supervisor .b).loop = .good
    ∧ ((live.setSupervisor .b { portRow.sup with window := some 3, loop := .lost, recovery := 0 }).supervisor .b).recovery = 0
    ∧ (live.setSupervisor .b { portRow.sup with window := some 3, loop := .lost, recovery := 1 }).Timely .b 103#8
    ∧ (live.setSupervisor .b { portRow.sup with window := some 3, loop := .silent, recovery := 0 }).Timely .b 103#8 :=
  ⟨by decide, ⟨by decide, by decide, 5, by decide +kernel⟩, by decide, by decide, by decide,
    timely_edge .b .lost 1 live (by decide), timely_edge .b .silent 0 live (by decide)⟩

theorem witness_AcceptedCycleStart :
    (live.setSupervisor .a { portRow.sup with window := some 3, loop := .lost, recovery := 1 }).Timely .a 103#8
    ∧ LoopId.a = live.activeLoop ∧ live.pendingLaunch = none
    ∧ (planned staged (.running 0)).stagingHeld = false
    ∧ ({ planned staged (.running 0) with staging := [.header 0 bankRow.header] }).stagingHeld = true :=
  ⟨timely_edge .a .lost 1 live (by decide), by decide, by decide, by decide +kernel, by decide +kernel⟩

/-- The staged section with an AT-CYCLE launch pending. -/
def launching (es : List Entry) : State :=
  { staged with staging := es, pendingLaunch := some { mode := .atCycle, sender := 0, silent := false } }

theorem witness_AtCycleLaunchTaken :
    ((launching staged.staging).setSupervisor .a { portRow.sup with window := some 3, loop := .good, recovery := 0 }).Timely .a 103#8
    ∧ (launching staged.staging).pendingLaunch = some { mode := .atCycle, sender := 0, silent := false }
    ∧ (launching staged.staging).stagingHeld = false
    ∧ crossCheck (writeEntries sectionTables staged.staging) staged.staging = none
    ∧ (crossCheck (writeEntries sectionTables [.group 0 GroupRecord.empty]) [.group 0 GroupRecord.empty]).map Prod.fst
      = some .doorGroup
    ∧ (writeEntries sectionTables staged.staging).stations = sectionTables.stations
    ∧ hasCommand (writeEntries sectionTables [.station 7 ⟨true, true, true⟩]) 0 = true :=
  ⟨timely_edge .a .good 0 _ (by decide), by decide +kernel, by decide +kernel, by decide +kernel, by decide +kernel,
    by decide +kernel, by decide +kernel⟩

theorem witness_PollsSent :
    ({ polled .good with pollTimer := some 0 } : LineControl).polling = true
    ∧ LineControl.reset.polling = false ∧ (polled .good).pollTimer ≠ some 0 := by decide

theorem witness_DoorLineReplies :
    (withLine .good none live).doorLines[(1 : DoorIx)].ctl.replyWait = none
    ∧ (withLine .good (some 0#8) live).doorLines[(1 : DoorIx)].ctl.replyWait ≠ none
    ∧ (withLine .good (some 0#8) live).doorLines[(1 : DoorIx)].ctl.line ≠ .missed2
    ∧ (starting live).handsOn = false ∧ doorReportOfBytes [1#8] = none
    ∧ doorReportOfBytes (reply true false .open) = some (shows true false .open)
    ∧ (0x18#8 : Byte).toNat / 8 % 4 = 3 ∧ (0x06#8 : Byte).toNat / 2 % 4 = 3 ∧ 4 ≤ (4#8 : Byte).toNat
    ∧ (0xEA#8 : Byte).toNat / 8 % 4 ≠ 3 ∧ (0xEA#8 : Byte).toNat / 2 % 4 ≠ 3 ∧ (3#8 : Byte).toNat < 4 := by decide +kernel

/-- No two bytes and their CRC make a reply of one byte. -/
theorem witness_damaged_reply : ∀ b0 b1 : Byte, [1#8] ≠ withCrc [b0, b1] := fun _ _ => by simp [withCrc]

theorem witness_DoorLineLost :
    (withLine .missed2 (some 0#8) (travelling .closing)).handsOn = true
    ∧ (withLine .missed2 (some 0#8) (travelling .closing)).doorLines[(1 : DoorIx)].ctl.replyWait ≠ none
    ∧ (withLine .missed2 (some 0#8) (travelling .closing)).doorLines[(1 : DoorIx)].ctl.line = .missed2
    ∧ (travelling .closing).doors[(1 : DoorIx)].state = .closing
    ∧ (followed .open).doors[(1 : DoorIx)].state = .queued ∧ (followed .open).NobodyFollows 1
    ∧ live.NoStepRuns ∧ AwaitsDoor1 (withLine .missed2 (some 0#8) (travelling .closing)) :=
  ⟨by decide +kernel, by decide +kernel, by decide +kernel, by decide +kernel, by decide +kernel,
    (followed_gains .open).2 (by decide +kernel), by decide +kernel, by decide +kernel⟩

theorem witness_GroupLineMisses :
    ({ LineControl.reset with polling := true } : LineControl).replyWait = none
    ∧ (∀ l ∈ [LineState.good, .missed1, .missed2, .lost],
        (withGroupLine l live).groupLines[(0 : GroupIx)].ctl.replyWait ≠ none
        ∧ (withGroupLine l live).groupLines[(0 : GroupIx)].ctl.line = l)
    ∧ live.handsOn = true ∧ (starting live).handsOn = false ∧ live.groups[(0 : GroupIx)].queue = []
    ∧ groupReportOfBytes [1#8] = none := by decide +kernel

/-- Group 0 idle on its accumulator, a claim of door 1 waiting that does not fit; and the same with a report of EMERGENCY supply
and 24 °C taken, under which it fits. -/
def hungry : State :=
  let s := weak (crowded .close live)
  s.setGroup 0 { s.groups[(0 : GroupIx)] with inUse := 0 }

/-- See `hungry`. -/
def fed : State :=
  (hungry.setGroupLine 0
    { ctl := { hungry.groupLines[(0 : GroupIx)].ctl with replyWait := none, settled := true, line := .good }
      held := some { supply := .emergency, temperature := 24, tempValid := true, pump := false } }).setGroup 0
    { hungry.groups[(0 : GroupIx)] with supply := .emergency, heldTemp := some 24, heldFlag := false }

theorem witness_GroupReportTaken :
    live.groupLines[(0 : GroupIx)].ctl.replyWait ≠ none
    ∧ groupReportOfBytes (withCrc [0x60#8, 101#8])
      = some { supply := .emergency, temperature := 101, tempValid := true, pump := false }
    ∧ (starting live).handsOn = false ∧ live.handsOn = true ∧ live.groups[(0 : GroupIx)].queue = []
    ∧ live.capacity 0 .close = (live.setGroup 0 { live.groups[(0 : GroupIx)] with heldFlag := true }).capacity 0 .close
    ∧ (∀ c : Claim, (crowded .close live).groups[(0 : GroupIx)].queue.head? = some c → (crowded .close live).fits 0 c = false)
    ∧ hungry.handsOn = true ∧ hungry.NoStepRuns ∧ fed.capacity 0 .close ≠ hungry.capacity 0 .close
    ∧ fed.AdmitsOne 0 { door := 1, dir := .close } [] :=
  ⟨by decide +kernel, by decide +kernel, by decide +kernel, by decide +kernel, by decide +kernel, by decide +kernel,
    on_head (x := { door := 1, dir := .close }) (by decide +kernel) (by decide +kernel), by decide +kernel, by decide,
    by decide +kernel, by decide +kernel, by decide +kernel, by decide +kernel, nofun⟩

/-- Door 1's report, its level and its limits chosen by the test, meets its outstanding POLL. -/
theorem door1_receives : live.Receives 1 (reply false true .none) (shows false true .none)
    ∧ live.Receives 1 (reply false false .none) (shows false false .none)
    ∧ live.Receives 1 (reply true true .none) (shows true true .none) := by decide +kernel

theorem witness_ReportAtRest :
    (live.doors[(1 : DoorIx)]).AtRest ∧ live.doorLines[(1 : DoorIx)].ctl.line ≠ .lost
    ∧ live.doors[(1 : DoorIx)].manual = false
    ∧ resolve .none .none = resolve live.doors[(1 : DoorIx)].sideA live.doors[(1 : DoorIx)].sideB ∧ live.NoStepRuns
    ∧ live.mode = .working ∧ atSea.mode = .sea ∧ atSea.plan.engine.inRun = false
    ∧ live.doors[(1 : DoorIx)].passage = false ∧ live.doors[(1 : DoorIx)].seaOpenHeld = false
    ∧ 0 < atSea.recloseTime 1 := by decide +kernel

/-- Door 1 waiting in each way meets the report of its end, and of neither end. -/
theorem witness_ReportAtRest_waiting :
    (∀ x ∈ [DoorState.warning, .recloseWait], (door1 (fun d => { d with state := x })).NobodyGains 1
      ∧ (door1 (fun d => { d with state := x })).doors[(1 : DoorIx)].KeptBy (shows false true .none))
    ∧ (followed .close).Receives 1 (reply true false .none) (shows true false .none)
    ∧ (followed .close).doors[(1 : DoorIx)].queuedDir = .close ∧ (followed .close).NobodyGains 1
    ∧ (followed .open).Receives 1 (reply false true .none) (shows false true .none)
    ∧ (followed .open).doors[(1 : DoorIx)].queuedDir = .open ∧ (followed .open).NobodyGains 1
    ∧ (followed .open).mode = .working
    ∧ (followed .open).doors[(1 : DoorIx)].KeptBy (shows false false .none)
    ∧ (followed .close).doors[(1 : DoorIx)].KeptBy (shows false true .none)
    ∧ (followed .open).Unawaited 1 ∧ AwaitsDoor1 (followed .close) := by
  refine ⟨?_, by decide +kernel, by decide +kernel, followed_gains .close, by decide +kernel, by decide +kernel,
    followed_gains .open, by decide, by decide +kernel, by decide +kernel, .inl nofun, by decide +kernel⟩
  intro x hx
  simp only [List.mem_cons, List.not_mem_nil, or_false] at hx
  rcases hx with rfl | rfl <;>
    exact ⟨⟨fun h => absurd h (by decide +kernel), fun h => absurd h (by decide +kernel)⟩, by decide +kernel⟩

/-- A report of a hand pump in use, and of one put away, reach door 1. -/
theorem witness_ReportAtRest_handPump :
    (travelling .closing).Receives 1 (withCrc [0x20#8, 0#8]) { shows false false .none with handPump := true }
    ∧ (travelling .closing).doors[(1 : DoorIx)].manual = false ∧ (travelling .closing).NobodyGains 1
    ∧ (travelling .closing).Receives 1 (withCrc [0xA0#8, 0#8]) { shows true false .none with handPump := true }
    ∧ AwaitsDoor1 (travelling .closing)
    ∧ (let s := door1 (fun d => { d with manual := true })
      s.Receives 1 (reply false true .none) (shows false true .none) ∧ s.doors[(1 : DoorIx)].manual = true
      ∧ s.doors[(1 : DoorIx)].AtRest ∧ s.NoStepRuns) :=
  ⟨by decide +kernel, by decide +kernel, travelling_gains (.inl rfl), by decide +kernel, by decide +kernel, by decide +kernel⟩

/-- Door 1 UNKNOWN with a load still held. -/
def lostDoor : State := travelling .unknown

theorem witness_ReportRecovers :
    lostDoor.Receives 1 (reply false true .none) (shows false true .none) ∧ lostDoor.doors[(1 : DoorIx)].state = .unknown
    ∧ lostDoor.doors[(1 : DoorIx)].manual = false ∧ lostDoor.mode = .working ∧ lostDoor.NoStepRuns
    ∧ lostDoor.NobodyWaitsFor lostDoor.doors[(1 : DoorIx)] :=
  ⟨by decide +kernel, by decide +kernel, by decide +kernel, by decide, by decide, nobody_waits (by decide +kernel) _⟩

theorem witness_ReportFaults :
    (travelling .opening).Receives 1 (reply true true .none) (shows true true .none)
    ∧ (travelling .opening).doors[(1 : DoorIx)].state = .opening ∧ (travelling .opening).NoStepRuns
    ∧ (travelling .opening).NobodyGains 1
    ∧ doorReportOfBytes (withCrc [0x40#8, 0x01#8]) = some { shows false true .none with unitFault := .valve }
    ∧ (live.doors[(1 : DoorIx)]).AtRest
    ∧ (followed .close).Receives 1 (reply true true .none) (shows true true .none)
    ∧ (followed .close).doors[(1 : DoorIx)].state = .queued ∧ (followed .close).NobodyGains 1
    ∧ AwaitsDoor1 (travelling .opening) :=
  ⟨by decide +kernel, by decide +kernel, by decide, travelling_gains (.inr rfl), by decide +kernel, by decide +kernel,
    by decide +kernel, by decide +kernel, followed_gains .close, by decide +kernel⟩

/-- Door 1 travelling, the opening claim of door 0 waiting for its load. -/
def queuedBehind (state : DoorState) : State :=
  ((travelling state).setDoor 0 { live.doors[(0 : DoorIx)] with state := .queued, queuedDir := .open }).setGroup 0
    { live.groups[(0 : GroupIx)] with inUse := 3, queue := [{ door := 0, dir := .open }] }

/-- Door 0's claim fits once door 1 has given its load back. -/
theorem queuedBehind_fits (state : DoorState) :
    let s := (queuedBehind state).unload (queuedBehind state).doors[(1 : DoorIx)]
    s.groups[(0 : GroupIx)].queue = [{ door := 0, dir := .open }] ∧ s.fits 0 { door := 0, dir := .open } = true := by
  cases state <;> decide +kernel

theorem witness_ReportCompletesTravel :
    (travelling .closing).Receives 1 (reply true false .none) (shows true false .none)
    ∧ (travelling .closing).doors[(1 : DoorIx)].state = .closing ∧ (travelling .closing).NoStepRuns
    ∧ (travelling .closing).NobodyWaitsFor (travelling .closing).doors[(1 : DoorIx)]
    ∧ (travelling .opening).Receives 1 (reply false true .none) (shows false true .none)
    ∧ (travelling .opening).doors[(1 : DoorIx)].state = .opening ∧ (travelling .opening).mode = .working
    ∧ AwaitsDoor1 (travelling .closing) ∧ (planned live (.running 0)).plan.marks[(0 : DoorIx)] ≠ some .unsettled
    ∧ (∀ x ∈ [DoorState.closing, .opening], (queuedBehind x).doors[(1 : DoorIx)].state = x
      ∧ (queuedBehind x).doors[(1 : DoorIx)].heldLoad = some (0, 3))
    ∧ (∀ (x : DoorState) (r : DoorReport) (d : DoorRuntime),
      ((((queuedBehind x).heard 1 r).unload (queuedBehind x).doors[(1 : DoorIx)]).setDoor 1 d).AdmitsOne 0
        { door := 0, dir := .open } []) :=
  ⟨by decide +kernel, by decide +kernel, by decide, nobody_waits (by decide +kernel) _, by decide +kernel, by decide +kernel,
    by decide, by decide +kernel, by decide +kernel, by decide +kernel, fun x _ _ =>
      ⟨(queuedBehind_fits x).1, rfl, (queuedBehind_fits x).2, nofun⟩⟩

theorem witness_LocalOpenRequest :
    (crowded .close live).Receives 0 (reply true false .open) (shows true false .open)
    ∧ (crowded .close live).doors[(0 : DoorIx)].state = .closed
    ∧ (crowded .close live).doorLines[(0 : DoorIx)].ctl.line ≠ .lost
    ∧ (crowded .close live).doors[(0 : DoorIx)].inhibited = false
    ∧ ({ crowded .close live with doors := live.doors.map (fun d => { d with inhibited := true }) } : State).doors[(0 : DoorIx)].inhibited
      = true
    ∧ (∀ c : Claim, ((crowded .close live).groups[(0 : GroupIx)].queue ++ [(⟨0, .open⟩ : Claim)]).head? = some c →
        (crowded .close live).fits 0 c = false) :=
  ⟨by decide +kernel, by decide +kernel, by decide +kernel, by decide +kernel, by decide +kernel,
    on_head (x := { door := 1, dir := .close }) (by decide +kernel) (by decide +kernel)⟩

/-- A press of CLOSE at door 1: OPEN in a full group, QUEUED(open) before door 0, OPENING in a weak group, and CLOSING. -/
theorem witness_LocalOpenRequest_close :
    (let s := live.setGroup 0 { live.groups[(0 : GroupIx)] with inUse := 4 };
      s.Receives 1 (reply false true .close) (shows false true .close)
      ∧ s.doors[(1 : DoorIx)].KeptBy (shows false true .close) ∧ s.doors[(1 : DoorIx)].state = .opened
      ∧ s.doors[(1 : DoorIx)].passage = false ∧ s.groups[(0 : GroupIx)].queue = []
      ∧ s.fits 0 { door := 1, dir := .close } = false)
    ∧ ((followed .open).Receives 1 (reply false false .close) (shows false false .close)
      ∧ (followed .open).doors[(1 : DoorIx)].KeptBy (shows false false .close)
      ∧ (followed .open).doors[(1 : DoorIx)].state = .queued ∧ (followed .open).doors[(1 : DoorIx)].queuedDir = .open
      ∧ ((followed .open).giveBack 1).fits 0 { door := 1, dir := .close } = false)
    ∧ ((weak (travelling .opening)).NobodyWaitsFor (weak (travelling .opening)).doors[(1 : DoorIx)]
      ∧ (weak (travelling .opening)).doors[(1 : DoorIx)].KeptBy (shows false false .close)
      ∧ ((weak (travelling .opening)).giveBack 1).fits 0 { door := 1, dir := .close } = false)
    ∧ ((travelling .closing).doors[(1 : DoorIx)].state = .closing
      ∧ (travelling .closing).doors[(1 : DoorIx)].KeptBy (shows false true .close)) :=
  ⟨by decide +kernel, by decide +kernel, ⟨nobody_waits (by decide +kernel) _, by decide +kernel, by decide +kernel⟩,
    by decide +kernel⟩

/-- Door 1 a passage in SEA mode, its OPEN control held. -/
def passing (state : DoorState) : State :=
  { (travelling state).setDoor 1 { (travelling state).doors[(1 : DoorIx)] with passage := true, sideA := .open } with
    mode := .sea }

/-- Door 1 opening at sea, in no plan and held by no one. -/
def openingAtSea : State := { travelling .opening with mode := .sea }

/-- An opening at sea, of a door held open, and of one that no plan and no one holds. -/
theorem witness_ReportCompletesTravel_sea :
    (passing .opening).doors[(1 : DoorIx)].passage = true
    ∧ openingAtSea.Receives 1 (reply false true .none) (shows false true .none) ∧ openingAtSea.plan.engine.inRun = false
    ∧ openingAtSea.doors[(1 : DoorIx)].state = .opening ∧ openingAtSea.doors[(1 : DoorIx)].passage = false
    ∧ openingAtSea.doors[(1 : DoorIx)].seaOpenHeld = false ∧ 0 < openingAtSea.recloseTime 1
    ∧ openingAtSea.NobodyWaitsFor openingAtSea.doors[(1 : DoorIx)] :=
  ⟨by decide +kernel, by decide +kernel, by decide, by decide +kernel, by decide +kernel, by decide +kernel,
    by decide +kernel, nobody_waits (by decide +kernel) _⟩

theorem witness_PassageReleased :
    (passing .opened).Receives 1 (reply false true .none) (shows false true .none)
    ∧ (passing .opened).doors[(1 : DoorIx)].state = .opened
    ∧ (passing .opening).Receives 1 (reply false false .none) (shows false false .none)
    ∧ (passing .opening).doors[(1 : DoorIx)].state = .opening ∧ (passing .opening).doors[(1 : DoorIx)].passage = true
    ∧ resolve (passing .opening).doors[(1 : DoorIx)].sideA (passing .opening).doors[(1 : DoorIx)].sideB = .open
    ∧ 0 < (passing .opening).recloseTime 1
    ∧ (passing .opening).NobodyWaitsFor (passing .opening).doors[(1 : DoorIx)] :=
  ⟨by decide +kernel, by decide +kernel, by decide +kernel, by decide +kernel, by decide +kernel, by decide +kernel,
    by decide +kernel, nobody_waits (by decide +kernel) _⟩

/-- Door 1 on its own local motion or wait, its control held, as a HOLD door or a MOMENTARY one. -/
def holding1 (mode : LocalMode) (level : Level) (s : State) : State :=
  { s.setDoor 1 { s.doors[(1 : DoorIx)] with origin := .localCtl, sideA := level } with
    tables := { s.tables with doors := upd s.tables.doors 1 { s.tables.doors[(1 : DoorIx)] with localMode := mode } } }

theorem witness_PassageReleased_hold :
    (let s := holding1 .hold .open (travelling .opening);
      s.Receives 1 (reply false false .none) (shows false false .none) ∧ s.mode = .working
      ∧ s.tables.doors[(1 : DoorIx)].localMode = .hold ∧ s.doors[(1 : DoorIx)].origin = .localCtl
      ∧ resolve s.doors[(1 : DoorIx)].sideA s.doors[(1 : DoorIx)].sideB = .open ∧ s.doors[(1 : DoorIx)].state = .opening
      ∧ s.doors[(1 : DoorIx)].KeptBy (shows false false .none) ∧ s.NobodyGains 1 ∧ s.Unawaited 1)
    ∧ (let s := holding1 .hold .close (followed .close)
      s.Receives 1 (reply false true .none) (shows false true .none)
      ∧ resolve s.doors[(1 : DoorIx)].sideA s.doors[(1 : DoorIx)].sideB = .close
      ∧ s.doors[(1 : DoorIx)].state = .queued ∧ s.doors[(1 : DoorIx)].queuedDir = .close
      ∧ s.doors[(1 : DoorIx)].KeptBy (shows false true .none) ∧ s.NobodyGains 1)
    ∧ (let s := holding1 .momentary .close (travelling .closing)
      s.tables.doors[(1 : DoorIx)].localMode ≠ .hold ∧ s.doors[(1 : DoorIx)].state = .closing
      ∧ s.doors[(1 : DoorIx)].KeptBy (shows false false .none)) :=
  ⟨⟨by decide +kernel, by decide, by decide +kernel, by decide +kernel, by decide +kernel, by decide +kernel,
      by decide +kernel, ⟨fun _ => nobody_waits (by decide +kernel) _, fun h => absurd h (by decide +kernel)⟩, .inl nofun⟩,
    ⟨by decide +kernel, by decide +kernel, by decide +kernel, by decide +kernel, by decide +kernel,
      ⟨fun h => absurd h (by decide +kernel), fun _ _ =>
        on_head (x := { door := 0, dir := .close }) (by decide +kernel) (by decide +kernel)⟩⟩,
    by decide +kernel⟩

/-- Doors 0 and 1 at the end of their warnings, group 0 full. -/
def warned : State :=
  let s := door1 (fun d => { d with state := .warning, timer := some 0 })
  (s.setDoor 0 { s.doors[(0 : DoorIx)] with state := .warning, timer := some 0 }).setGroup 0
    { s.groups[(0 : GroupIx)] with inUse := 4 }

theorem witness_WarningsEndTogether :
    (∀ i : DoorIx, (inSet 3#24 i && decide (warned.doors[i].state = .warning) && decide (warned.doors[i].timer = some 0)) = true →
      warned.tables.doors[i].group = 0)
    ∧ (∀ i : DoorIx, warned.capacity 0 .close < warned.groups[(0 : GroupIx)].inUse + warned.tables.doors[i].load) := by
  decide +kernel

theorem witness_WarningEndsAdmitted :
    let s := door1 (fun d => { d with state := .warning, timer := some 0 })
    s.doors[(1 : DoorIx)].state = .warning ∧ s.doors[(1 : DoorIx)].timer = some 0
    ∧ s.groups[s.tables.doors[(1 : DoorIx)].group].queue = []
    ∧ s.groups[s.tables.doors[(1 : DoorIx)].group].inUse + s.tables.doors[(1 : DoorIx)].load
      ≤ s.capacity s.tables.doors[(1 : DoorIx)].group .close ∧ s.NoStepRuns ∧ AwaitsDoor1 s := by decide +kernel

/-- A running step with the wait ADMITTED, its bank that of `enteringTwice`; and heels in each row of R82. -/
theorem witness_WarningEndsAdmitted_rows :
    (let s := planned enteringTwice (.running 0);
      s.plan.engine = .running 0 ∧ s.plan.runningBank = some 0
      ∧ s.tables.banks[(0 : BankIx)].steps[(0 : StepIx)].wait = .admitted)
    ∧ ((20 : Int) ≤ groupRow.heelLo ∧ groupRow.heelLo < (21 : Int) ∧ (21 : Nat) < groupRow.heelHi
      ∧ groupRow.heelHi ≤ (150 : Int)) ∧ ({ groupRow with heelHi := 0 } : GroupRecord).heelHi ≤ groupRow.heelLo := by
  decide +kernel

theorem witness_RecloseDelaysEnd :
    let s := door1 (fun d => { d with state := .recloseWait, timer := some 0 })
    inSet 2#24 1 = true ∧ s.doors[(1 : DoorIx)].state = .recloseWait ∧ s.doors[(1 : DoorIx)].timer = some 0
    ∧ (∀ i : DoorIx, (inSet 2#24 i && decide (s.doors[i].state = .recloseWait) && decide (s.doors[i].timer = some 0)) = true →
        0 < s.preWarningTime i ∧ s.doors[i].passage = false ∧ s.doors[i].manual = false) := by decide +kernel

/-- Door 1 travelling, or cut off, with its deadline at 0. -/
def overdue (state : DoorState) : State :=
  (travelling state).setDoor 1 { (travelling state).doors[(1 : DoorIx)] with deadline := { running := true, value := 0 } }

theorem witness_DeadlineReached :
    (∀ d ∈ [DoorState.closing, .opening, .unknown],
      (overdue d).doors[(1 : DoorIx)].deadline = { running := true, value := 0 } ∧ (overdue d).doors[(1 : DoorIx)].state = d
      ∧ (overdue d).NoStepRuns)
    ∧ (overdue .closing).NobodyWaitsFor (overdue .closing).doors[(1 : DoorIx)]
    ∧ (overdue .unknown).NobodyWaitsFor (overdue .unknown).doors[(1 : DoorIx)] :=
  ⟨by decide +kernel, nobody_waits (by decide +kernel) _, nobody_waits (by decide +kernel) _⟩

theorem witness_SectionTimersEnd :
    ({ live with beatTimer := some 0 }).beatTimer = some 0
    ∧ (live.setGroup 0 { live.groups[(0 : GroupIx)] with period := some 0 }).groups[(0 : GroupIx)].period = some 0
    ∧ live.groups[(0 : GroupIx)].heldTemp = none
    ∧ ((live.tables.groups[(0 : GroupIx)].tRef : Int) ≤ 20 ∧ (live.tables.groups[(0 : GroupIx)].tRef : Int) - 19 = (1 : Nat))
    ∧ ({ live with transfer := some { requester := 1, timer := 0 } }).transfer = some { requester := 1, timer := 0 } := by
  decide +kernel

/-- The plan running its step `k` with the step timer at 0. -/
def overrunAt (k : StepIx) (visits : Nat) : State :=
  let s := planned atSea (.running k)
  { s with plan := { s.plan with stepTimer := .running 0, visits := visits } }

theorem witness_StepOverruns :
    (overrunAt 0 15).plan.engine = .running 0 ∧ (overrunAt 0 15).plan.runningBank = some 0
    ∧ (overrunAt 0 15).plan.stepTimer = .running 0 ∧ (overrunAt 0 15).pendingLaunch = none
    ∧ bankRow.steps[(1 : StepIx)].next = none ∧ bankRow.steps[(0 : StepIx)].next = some 1
    ∧ bankRow.steps[(1 : StepIx)].valid = true ∧ bankRow.steps[(2 : StepIx)].valid = false
    ∧ (overrunAt 0 15).plan.visits < 16 ∧ 16 ≤ (overrunAt 0 16).plan.visits
    ∧ (upd bankRow.steps 0 (stepRow 2#24 50 (some 2)))[(0 : StepIx)].next = some 2 := by decide +kernel

theorem witness_NothingDue :
    (∀ i : DoorIx, inSet 1#24 i = true → live.doors[i].state ≠ .warning ∨ live.doors[i].timer ≠ some 0)
    ∧ (∀ i : DoorIx, inSet 1#24 i = true → live.doors[i].state ≠ .recloseWait ∨ live.doors[i].timer ≠ some 0)
    ∧ (∀ i : DoorIx, inSet 1#24 i = true → live.doors[i].deadline.running = false ∨ live.doors[i].deadline.value ≠ 0)
    ∧ live.beatTimer ≠ some 0 ∧ live.groups[(0 : GroupIx)].period ≠ some 0 ∧ live.NoStepRuns
    ∧ (∀ n : Slot, live.transfer ≠ some { requester := n, timer := 0 }) ∧ live.storeEngine ≠ .saving
    ∧ live.storeEngine ≠ .loading ∧ live.phase ≠ .loading ∧ live.storeTimer ≠ some 0 := by decide +kernel

theorem witness_StoreOrdersTaken :
    live.Hears 96#8 0 ∧ hasManage live.tables 0 = true ∧ live.storeEngine = .idle ∧ live.staging = []
    ∧ ({ live with storeEngine := .saving }).Hears 96#8 0 ∧ staged.staging ≠ [] ∧ staged.stagingOwner = some 0
    ∧ (staged.Hears 97#8 1 ∧ staged.stagingOwner ≠ some 1 ∧ hasManage staged.tables 1 = true) := by decide +kernel

theorem witness_SavesEnd :
    let s : State :=
      { live with storeEngine := .saving, storeSender := some 1, saveImage := some sectionTables, storeTimer := some 0 }
    s.storeEngine = .saving ∧ s.storeSender = some 1 ∧ s.saveImage = some sectionTables ∧ s.storeTimer = some 0
    ∧ ([] : List Byte) ≠ imageBytes sectionTables := by decide +kernel

set_option maxRecDepth 20000 in
theorem witness_LoadsEnd :
    let s : State := { live with storeEngine := .loading, storeSender := some 1, storeTimer := some 0 }
    s.storeEngine = .loading ∧ s.storeSender = some 1 ∧ goodImage [] = none ∧ s.storeTimer = some 0
    ∧ (goodImage (imageBytes sectionTables)).isSome = true ∧ s.storeTorn = false ∧ s.plan.engine.inRun = false
    ∧ (planned s (.suspended 0)).plan.engine.inRun = true ∧ (planned s (.suspended 0)).plan.runningBank = some 0
    ∧ s.transfer = none ∧ s.holder = some 0 := by
  decide +kernel

/-- The section's image with station `n` without command right. -/
def demoting (n : Slot) : List Byte :=
  imageBytes { sectionTables with stations := upd sectionTables.stations n ⟨true, false, true⟩ }

set_option maxRecDepth 20000 in
/-- With station 0 the holder and station 1 the requester, the three images lose the one, the other, and neither. -/
theorem witness_LoadsEnd_authority :
    ∀ n ∈ [(0 : Slot), 1, 2], (goodImage (demoting n)).map (fun es =>
        let t := writeEntries sectionTables es
        (decide (t.stations = sectionTables.stations), hasCommand t 0, hasCommand t 1))
      = some (false, decide (n ≠ 0), decide (n ≠ 1)) := by
  decide +kernel

/-- The section with station 99 enrolled without rights. -/
def withGuest : State :=
  { live with tables := { sectionTables with stations := upd sectionTables.stations 3 ⟨true, false, false⟩ } }

theorem witness_OrdersTurnedAway :
    (orderHead (.doorOrderOpen 97#8 0#8)).map OrderHead.need = some .authority
    ∧ (orderHead (.doorOrderAck 99#8 0#8)).map OrderHead.need = some .command
    ∧ (orderHead (.launchNow 99#8)).map OrderHead.need = some .manage
    ∧ (∀ n : Slot, ¬ live.Hears 99#8 n) ∧ live.Hears 97#8 1 ∧ live.holder ≠ some 1
    ∧ withGuest.Hears 99#8 3 ∧ hasCommand withGuest.tables 3 = false ∧ hasManage withGuest.tables 3 = false := by decide +kernel

theorem witness_DoorOrdersRefused :
    live.Hears 96#8 0 ∧ hasCommand live.tables 0 = true ∧ live.holder = some 0 ∧ 24 ≤ (24#8 : Byte).toNat
    ∧ (23#8 : Byte).toNat = (23 : DoorIx).val ∧ live.doors[(23 : DoorIx)].state = .absent
    ∧ ((door1 (fun d => { d with manual := true })).doors[(1 : DoorIx)].manual = true
      ∧ (door1 (fun d => { d with manual := true })).doors[(1 : DoorIx)].state ≠ .absent)
    ∧ (∀ x ∈ [DoorState.fault, .unknown], (door1 (fun d => { d with state := x })).doors[(1 : DoorIx)].state = x
      ∧ (door1 (fun d => { d with state := x })).doors[(1 : DoorIx)].manual = false) := by decide +kernel

/-- The section without a pre-warning time. -/
def unwarned (s : State) : State :=
  { s with tables := { s.tables with settings := { s.tables.settings with preWarning := 0 } } }

theorem witness_CloseOrder :
    live.Hears 97#8 1 ∧ (1#8 : Byte).toNat = (1 : DoorIx).val ∧ live.doors[(1 : DoorIx)].manual = false
    ∧ live.doors[(1 : DoorIx)].state = .opened ∧ live.doors[(1 : DoorIx)].passage = false ∧ 0 < live.preWarningTime 1
    ∧ live.doors[(0 : DoorIx)].state = .closed
    ∧ (door1 (fun d => { d with passage := true })).doors[(1 : DoorIx)].passage = true
    ∧ ((travelling .opening).doors[(1 : DoorIx)].state = .opening ∧ (travelling .opening).NobodyGains 1)
    ∧ ((followed .open).doors[(1 : DoorIx)].state = .queued ∧ (followed .open).doors[(1 : DoorIx)].queuedDir = .open
      ∧ (followed .open).NobodyGains 1)
    ∧ (let s := unwarned (followed .open)
      s.preWarningTime 1 = 0
      ∧ (s.giveBack 1).groups[(0 : GroupIx)].queue = [{ door := 0, dir := .open }]
      ∧ (s.giveBack 1).fits 0 { door := 1, dir := .close } = false)
    ∧ (let s := unwarned (weak (travelling .opening))
      s.preWarningTime 1 = 0 ∧ s.NobodyWaitsFor s.doors[(1 : DoorIx)]
      ∧ (s.giveBack 1).groups[(0 : GroupIx)].queue = [] ∧ (s.giveBack 1).fits 0 { door := 1, dir := .close } = false) :=
  ⟨by decide +kernel, by decide, by decide +kernel, by decide +kernel, by decide +kernel, by decide +kernel,
    by decide +kernel, by decide +kernel, ⟨by decide +kernel, travelling_gains (.inr rfl)⟩,
    ⟨by decide +kernel, by decide +kernel, followed_gains .open⟩, by decide +kernel,
    by decide +kernel, nobody_waits (by decide +kernel) _, by decide +kernel, by decide +kernel⟩

/-- Door 1 in RECLOSE-WAIT with a held report, its group on the accumulator. -/
def rewaiting (r : DoorReport) : State :=
  weak ((door1 (fun d => { d with state := .recloseWait, timer := some 9 })).setDoorLine 1
    { ctl := polled .good, held := some r })

theorem witness_OpenOrder :
    (crowded .open live).Hears 96#8 0 ∧ live.holder = some 0 ∧ atSea.mode = .sea ∧ live.mode = .working
    ∧ atSea.tables.doors[(0 : DoorIx)].seaOpen = false ∧ atSea.tables.doors[(2 : DoorIx)].seaOpen = true
    ∧ (door1 (fun d => { d with passage := true })).doors[(1 : DoorIx)].passage = true
    ∧ live.doors[(1 : DoorIx)].state = .opened
    ∧ ((crowded .open live).doors[(0 : DoorIx)].state = .closed
      ∧ ((crowded .open live).giveBack 0).groups[(0 : GroupIx)].queue = [{ door := 1, dir := .open }]
      ∧ ((crowded .open live).giveBack 0).fits 0 { door := 1, dir := .open } = false)
    ∧ ((followed .close).doors[(1 : DoorIx)].state = .queued ∧ (followed .close).doors[(1 : DoorIx)].queuedDir = .close
      ∧ ((followed .close).giveBack 1).groups[(0 : GroupIx)].queue = [{ door := 0, dir := .close }]
      ∧ ((followed .close).giveBack 1).fits 0 { door := 0, dir := .close } = false)
    ∧ ((weak (travelling .closing)).doors[(1 : DoorIx)].state = .closing
      ∧ (weak (travelling .closing)).NobodyWaitsFor (weak (travelling .closing)).doors[(1 : DoorIx)]
      ∧ ((weak (travelling .closing)).giveBack 1).groups[(0 : GroupIx)].queue = []
      ∧ ((weak (travelling .closing)).giveBack 1).fits 0 { door := 1, dir := .open } = false)
    ∧ ((∀ r : DoorReport, (rewaiting r).doors[(1 : DoorIx)].state = .recloseWait
        ∧ (rewaiting r).doorLines[(1 : DoorIx)].held = some r ∧ (rewaiting r).NoStepRuns)
      ∧ ((rewaiting (shows false false .none)).giveBack 1).groups[(0 : GroupIx)].queue = []
      ∧ ((rewaiting (shows false false .none)).giveBack 1).fits 0 { door := 1, dir := .open } = false) :=
  ⟨by decide +kernel, by decide, by decide, by decide, by decide +kernel, by decide +kernel, by decide +kernel,
    by decide +kernel, by decide +kernel, by decide +kernel,
    ⟨by decide +kernel, nobody_waits (by decide +kernel) _, by decide +kernel, by decide +kernel⟩,
    fun _ => ⟨rfl, rfl, nofun⟩, by decide +kernel, by decide +kernel⟩

/-- Door 1 in FAULT(LIMITS), its held report still showing both limits. -/
def standingFault : State :=
  (door1 (fun d => { d with state := .fault, faultCause := .limits })).setDoorLine 1
    { ctl := polled .good, held := some (shows true true .none) }

theorem witness_StopAndAckOrders :
    live.Hears 96#8 0 ∧ live.holder = some 0 ∧ hasCommand live.tables 0 = true
    ∧ live.doorLines[(1 : DoorIx)].held = some (shows false true .none) ∧ live.doors[(1 : DoorIx)].state = .opened
    ∧ live.doors[(1 : DoorIx)].manual = false ∧ atSea.mode = .sea ∧ live.NoStepRuns
    ∧ (travelling .closing).NobodyGains 1
    ∧ ((followed .open).doors[(1 : DoorIx)].state = .queued ∧ (followed .open).NobodyGains 1)
    ∧ (standingFault.doors[(1 : DoorIx)].state = .fault ∧ standingFault.doors[(1 : DoorIx)].faultCause = .limits
      ∧ standingFault.doorLines[(1 : DoorIx)].held = some (shows true true .none))
    ∧ (door1 (fun d => { d with state := .fault, faultCause := .unit })).doors[(1 : DoorIx)].state = .fault
    ∧ ((lostDoor.setDoorLine 1 { ctl := polled .lost, held := none }).doors[(1 : DoorIx)].state = .unknown
      ∧ (lostDoor.setDoorLine 1 { ctl := polled .lost, held := none }).doorLines[(1 : DoorIx)].held = none) :=
  ⟨by decide +kernel, by decide, by decide +kernel, by decide +kernel, by decide +kernel, by decide +kernel, by decide,
    by decide, travelling_gains (.inl rfl), ⟨by decide +kernel, followed_gains .open⟩, by decide +kernel,
    by decide +kernel, by decide +kernel⟩

theorem witness_InhibitScheme :
    live.Hears 96#8 0 ∧ live.holder = some 0 ∧ hasManage live.tables 0 = true ∧ live.schemeFuse = false
    ∧ ({ live with schemeFuse := true }).schemeFuse = true ∧ live.doors[(23 : DoorIx)].state = .absent
    ∧ live.doors[(0 : DoorIx)].state ≠ .absent ∧ inSet live.inhibitSet 0 = true
    ∧ inSet ({ live with schemeFuse := true, inhibitSet := 0#24 }).inhibitSet 0 = false := by decide +kernel

theorem witness_ModeOrders :
    live.Hears 96#8 0 ∧ atSea.Hears 96#8 0 ∧ live.mode = .working ∧ atSea.mode = .sea ∧ live.pendingLaunch = none
    ∧ live.holder = some 0 ∧ atSea.plan.engine.inRun = false ∧ (planned atSea (.suspended 0)).plan.engine.inRun = true
    ∧ (∀ g : GroupIx, (crowded .open live).QueueSound g)
    ∧ (∀ i : DoorIx, live.doors[i].state ≠ .opening ∧ live.doors[i].state ≠ .queued) := by
  decide +kernel

theorem witness_RerunOrder :
    atSea.Hears 97#8 1 ∧ live.mode = .working ∧ (planned atSea (.running 0)).plan.engine.inRun = true
    ∧ atSea.plan.engine.inRun = false ∧ atSea.pendingLaunch = none
    ∧ sectionTables.banks[(1 : BankIx)].header.valid = false ∧ bankRow.header.valid = true
    ∧ bankRow.header.firstStep = (0 : StepIx).val ∧ bankRow.steps[(0 : StepIx)].valid = true
    ∧ (upd bankRow.steps 0 PlanBank.empty.steps[(0 : StepIx)])[(0 : StepIx)].valid = false := by decide +kernel

/-- The plan suspended on step 0, whose one unsettled door is a passage. -/
def passageWaits : State := planned { passing .opened with plan := live.plan } (.suspended 0)

/-- The plan suspended on a step, door 1 its one unsettled door. -/
def suspended (k : StepIx) (s : State) : State := { planned s (.suspended k) with mode := .sea }

theorem witness_PlanOrders :
    live.Hears 96#8 0 ∧ live.holder = some 0 ∧ (∀ k : StepIx, live.plan.engine ≠ .running k)
    ∧ (planned atSea (.running 15)).plan.engine = .running 15 ∧ (∀ k : StepIx, live.plan.engine ≠ .suspended k)
    ∧ passageWaits.plan.engine = .suspended 0 ∧ (∃ i : DoorIx, passageWaits.plan.marks[i] = some .unsettled)
    ∧ (∀ i : DoorIx, passageWaits.plan.marks[i] = some .unsettled →
        passageWaits.doors[i].passage = true ∧ passageWaits.doors[i].manual = false ∧ passageWaits.doors[i].state = .opened)
    ∧ 2 ≤ (2#8 : Byte).toNat ∧ (1#8 : Byte).toNat = (1 : BankIx).val ∧ live.plan.engine.inRun = false
    ∧ passageWaits.plan.engine.inRun = true
    ∧ (∀ k : StepIx, (suspended k live).plan.engine = .suspended k)
    ∧ (∀ j : DoorIx, (suspended 0 live).plan.marks[j] = some .unsettled ↔ j = 1)
    ∧ ((suspended 0 live).doors[(1 : DoorIx)].state = .opened ∧ (suspended 0 live).doors[(1 : DoorIx)].passage = false
      ∧ 0 < (suspended 0 live).preWarningTime 1)
    ∧ ((suspended 0 (door1 (fun _ => resting .closed))).doors[(1 : DoorIx)].state = .closed
      ∧ (suspended 0 (door1 (fun _ => resting .fault))).doors[(1 : DoorIx)].state = .fault
      ∧ (suspended 0 live).plan.runningBank = some 0 ∧ (suspended 0 live).pendingLaunch = none
      ∧ (suspended 0 live).plan.visits < 16 ∧ bankRow.steps[(0 : StepIx)].next = some 1
      ∧ bankRow.steps[(1 : StepIx)].valid = true ∧ bankRow.steps[(1 : StepIx)].next = none) := by decide +kernel

/-- Door 1's opening, cut off by a RESUME, or its opening claim, taken back by one, admits nobody. -/
theorem witness_PlanOrders_openings :
    ((suspended 0 (travelling .opening)).doors[(1 : DoorIx)].state = .opening
      ∧ (suspended 0 (travelling .opening)).NobodyGains 1)
    ∧ ((suspended 0 (followed .open)).doors[(1 : DoorIx)].state = .queued
      ∧ (suspended 0 (followed .open)).doors[(1 : DoorIx)].queuedDir = .open
      ∧ (suspended 0 (followed .open)).NobodyGains 1) :=
  ⟨⟨by decide +kernel, travelling_gains (.inr rfl)⟩, by decide +kernel, by decide +kernel, followed_gains .open⟩

theorem witness_AuthorityRequests :
    live.Hears 96#8 0 ∧ live.Hears 97#8 1 ∧ hasCommand live.tables 1 = true ∧ live.holder = some 0
    ∧ ({ live with holder := none }).holder = none ∧ live.transfer = none
    ∧ ({ live with transfer := some { requester := 1, timer := 0 } }).transfer = some { requester := 1, timer := 0 }
    ∧ (0 : Slot) ≠ 1 ∧ (2 : Slot) ≠ 1 := by decide +kernel

theorem witness_AuthorityReleaseAndDenial :
    live.Hears 97#8 1 ∧ live.holder ≠ some 1 ∧ live.Hears 96#8 0 ∧ live.holder = some 0 ∧ live.transfer = none
    ∧ ({ live with transfer := some { requester := 7, timer := 0 } }).transfer = some { requester := 7, timer := 0 } := by
  decide +kernel

/-- An area that holds `n` copies of one record of station 96. -/
def piled (n : Nat) : State := { staged with staging := List.replicate n (.station 7 ⟨true, true, true⟩) }

theorem witness_TableWriteOrder :
    live.Hears 96#8 0 ∧ hasManage live.tables 0 = true ∧ ([] : List Byte).length ≠ recordsSize .door 0 1
    ∧ [0xE0#8].length = recordsSize .station 7 1 ∧ (staged.Hears 97#8 1 ∧ staged.staging ≠ [] ∧ staged.stagingOwner ≠ some 1)
    ∧ (live.staging = [] ∧ live.pendingLaunch = none ∧ live.storeEngine ≠ .loading)
    ∧ ({ live with storeEngine := .loading }).storeEngine = .loading
    ∧ (1 ≤ (1#8 : Byte).toNat ∧ 7 + (1#8 : Byte).toNat ≤ tableRecords .station)
    ∧ ¬ (8 + (1#8 : Byte).toNat ≤ tableRecords .station) ∧ ¬ (1 ≤ (0#8 : Byte).toNat)
    ∧ entriesOfBytes .station 7 1 [0xE0#8] = some [.station 7 ⟨true, true, true⟩]
    ∧ entriesOfBytes .settings 0 1 (List.replicate 13 0xFF#8) = none
    ∧ 96 < (piled 96).staging.length + 1 ∧ (piled 95).staging.length + 1 ≤ 96 := by decide +kernel

theorem witness_LaunchOrders :
    live.Hears 96#8 0 ∧ hasManage live.tables 0 = true ∧ live.staging = [] ∧ staged.staging ≠ []
    ∧ staged.stagingOwner ≠ some 1 ∧ staged.Hears 97#8 1 ∧ staged.stagingOwner = some 0 ∧ staged.pendingLaunch = none
    ∧ (launching staged.staging).pendingLaunch ≠ none
    ∧ crossCheck (writeEntries staged.tables staged.staging) staged.staging = none ∧ staged.stagingHeld = false
    ∧ (crossCheck (writeEntries sectionTables [.group 0 GroupRecord.empty]) [.group 0 GroupRecord.empty]).isSome = true
    ∧ crossCheck (writeEntries sectionTables [.header 0 bankRow.header]) [.header 0 bankRow.header] = none
    ∧ ({ planned staged (.running 0) with staging := [.header 0 bankRow.header] }).stagingHeld = true
    ∧ staged.transfer = none ∧ live.holder = some 0
    ∧ (writeEntries sectionTables [.station 0 ⟨true, false, true⟩]).stations ≠ sectionTables.stations
    ∧ hasCommand (writeEntries sectionTables [.station 0 ⟨true, false, true⟩]) 0 = false
    ∧ hasCommand (writeEntries sectionTables [.station 0 ⟨true, false, true⟩]) 1 = true
    ∧ crossCheck (writeEntries sectionTables [.station 0 ⟨true, false, true⟩]) [.station 0 ⟨true, false, true⟩] = none
    ∧ ({ live with transfer := some { requester := 1, timer := 9 } }).transfer = some { requester := 1, timer := 9 }
    ∧ hasCommand (writeEntries sectionTables [.station 1 ⟨true, false, true⟩]) 1 = false
    ∧ hasCommand (writeEntries sectionTables [.station 1 ⟨true, false, true⟩]) 0 = true := by decide +kernel

/-- The section with door 2, the only door of group 1, absent. -/
def lowered : State :=
  { live with tables := { sectionTables with doors := upd sectionTables.doors 2 { doorRow 1 1 with present := false } } }

/-- One staged record for each owner, with what it needs: a door removed, from each way of holding something; one added; one
rewritten in its queue; a group lowered, raised and strengthened under a waiting head; a range of inhibited doors. -/
theorem witness_LaunchOrders_owners :
    let passes : State → Entry → Prop := fun s e => crossCheck (writeEntries s.tables [e]) [e] = none
    (passes live (.door 1 { doorRow 0 3 with present := false }) ∧ (travelling .closing).NobodyGains 1
      ∧ (travelling .closing).doors[(1 : DoorIx)].LoadSound ∧ AwaitsDoor1 (travelling .closing)
      ∧ lostDoor.doors[(1 : DoorIx)].LoadSound ∧ lostDoor.NobodyWaitsFor lostDoor.doors[(1 : DoorIx)]
      ∧ (followed .open).doors[(1 : DoorIx)].LoadSound ∧ (followed .open).NobodyGains 1)
    ∧ (passes live (.door 23 (doorRow 0 3)) ∧ live.tables.doors[(23 : DoorIx)].present = false
      ∧ live.doors[(23 : DoorIx)].state = .absent ∧ live.Unawaited 23)
    ∧ (passes live (.door 1 (doorRow 0 4)) ∧ (followed .close).tables.doors[(1 : DoorIx)].load ≠ (doorRow 0 4).load
      ∧ (let u := ((followed .close).unqueue 1).setGroup 0
          { (followed .close).groups[(0 : GroupIx)] with queue := [{ door := 0, dir := .close }, { door := 1, dir := .close }] }
        u.fits 0 { door := 0, dir := .close } = false))
    ∧ (passes lowered (.group 1 { groupRow with present := false }) ∧ lowered.groups[(1 : GroupIx)].queue = []
      ∧ passes live (.group 2 groupRow) ∧ live.tables.groups[(2 : GroupIx)].present = false
      ∧ live.groups[(2 : GroupIx)].queue = [])
    ∧ (let u := { hungry with tables := writeEntries hungry.tables [.group 0 { groupRow with capAccumulator := 3 }] }
      passes live (.group 0 { groupRow with capAccumulator := 3 })
      ∧ u.groups[(0 : GroupIx)].queue = [{ door := 1, dir := .close }] ∧ u.doors[(1 : DoorIx)].state = .queued
      ∧ u.fits 0 { door := 1, dir := .close } = true)
    ∧ (passes live (.settings { sectionTables.settings with inhibitFirst := 4, inhibitCount := 6 })
      ∧ sectionTables.settings.inhibitFirst ≠ 4 ∧ live.schemeFuse = false) :=
  ⟨⟨by decide +kernel, travelling_gains (.inl rfl), by decide +kernel, by decide +kernel, by decide +kernel,
      nobody_waits (by decide +kernel) _, by decide +kernel, followed_gains .open⟩,
    ⟨by decide +kernel, by decide +kernel, by decide +kernel, .inl nofun⟩, by decide +kernel, by decide +kernel,
    by decide +kernel, by decide +kernel⟩

theorem witness_DiscardAndTableRead :
    live.Hears 97#8 1 ∧ hasManage live.tables 1 = true ∧ live.staging = [] ∧ staged.staging ≠ []
    ∧ ¬ (1 ≤ (0#8 : Byte).toNat) ∧ ¬ ((9#8 : Byte).toNat ≤ 8)
    ∧ (1 ≤ (8#8 : Byte).toNat ∧ (8#8 : Byte).toNat ≤ 8 ∧ (16#8 : Byte).toNat + (8#8 : Byte).toNat ≤ tableRecords .door) := by
  decide +kernel

theorem witness_RecordsRoundTrip :
    (doorRow 3 8).InRange ∧ groupRow.InRange ∧ bankRow.header.firstStep ≤ 255 ∧ (stepRow 0#24 3000 none).InRange
    ∧ Settings.default.InRange
    ∧ ({ doorRow 3 8 with preWarning := some 200, recloseDelay := some 600, margin := 600, closeNominal := 1200 }).InRange := by
  simp [DoorRecord.InRange, doorRow, DoorRecord.empty, groupRow, GroupRecord.InRange, bankRow, stepRow,
    PlanStep.InRange, Settings.InRange, Settings.default]

theorem witness_StoreImageRoundTrip : sectionTables.InRange := by
  refine ⟨?_, by decide +kernel, by decide +kernel, by decide +kernel, by decide +kernel, by decide +kernel⟩
  have h : ∀ i : DoorIx, (1 ≤ sectionTables.doors[i].load ∧ sectionTables.doors[i].load ≤ 8)
      ∧ (10 ≤ sectionTables.doors[i].closeNominal ∧ sectionTables.doors[i].closeNominal ≤ 1200)
      ∧ (10 ≤ sectionTables.doors[i].openNominal ∧ sectionTables.doors[i].openNominal ≤ 1200)
      ∧ sectionTables.doors[i].margin ≤ 600 ∧ sectionTables.doors[i].preWarning = none
      ∧ sectionTables.doors[i].recloseDelay = none := by decide +kernel
  intro i
  obtain ⟨h1, h2, h3, h4, h5, h6⟩ := h i
  refine ⟨h1, h2, h3, h4, ?_, ?_⟩
  · intro n hn; rw [h5] at hn; cases hn
  · intro n hn; rw [h6] at hn; cases hn

theorem witness_StepTakesTheFront :
    live.pending = [] ∧ live.nextDue = some (.lineReplyTimeout (.door 0)) ∧ State.reset.nextDue = none := by decide +kernel

theorem witness_OnlyNamedCommandsChange :
    exec .beatTimerExpiry live = .next live ∧ ({ live with schemeFuse := true }).schemeFuse = true
    ∧ resets .beatTimerExpiry = false ∧ bringsCycleStart .beatTimerExpiry = false :=
  ⟨rfl, rfl, rfl, rfl⟩

theorem witness_StepKeepsRanges :
    step { live with pending := [.beatTimerExpiry] } = .next live ∧ live.PortsWithinLimits
    ∧ (-300 ≤ live.heldHeel ∧ live.heldHeel ≤ 300)
    ∧ (∀ g : GroupIx, live.groups[g].heldTemp = none ∧ 256 ≤ live.groups[g].tf ∧ live.groups[g].tf ≤ 1023)
    ∧ (∀ i : DoorIx, (live.doors[i]).InRange) :=
  ⟨rfl, by decide +kernel, by decide, by decide +kernel, by decide +kernel⟩

theorem witness_StepKeepsRecords : live.StagingSound ∧ live.ContactSound
    ∧ (∀ h : Slot, live.holder = some h → hasCommand live.tables h = true) ∧ live.transfer = none := by decide +kernel

theorem witness_StepKeepsLoads : (crowded .close live).phase = .running ∧ atSea.SeaOpeningsHeld ∧ live.LoadsBalance :=
  ⟨by decide, by decide +kernel, by decide +kernel⟩


end Sys2Proof.Tests
end

section
/-! The statement of 00_scope.md: what one step takes, that every command answers a next state, and what one tenth
counts. -/

namespace Sys2Proof.Machine

open Sys2Proof

/-! ## One step -/

/-- No arm of `exec` faults or refuses (log entry 19). -/
theorem exec_answers_next (c : Instr) (s : State) : ∃ t : State, exec c s = .next t := by
  cases c <;> exact ⟨_, rfl⟩

theorem step_of_front (c : Instr) (rest : List Instr) (s : State) :
    step { s with pending := c :: rest } = exec c { s with pending := rest } := rfl

theorem step_of_due {s : State} {c : Instr} (hq : s.pending = []) (hdue : s.nextDue = some c) : step s = exec c s := by
  simp only [step, hq, hdue]

theorem step_of_idle {s : State} (hq : s.pending = []) (hdue : s.nextDue = none) : step s = .next s.tick := by
  simp only [step, hq, hdue]

/-! ## One tenth -/

/-- A table mapped is the table built by index from its entries. -/
theorem table_map_eq_ofFn {α β : Type} {n : Nat} (f : α → β) (v : Vector α n) :
    v.map f = Vector.ofFn (fun i : Fin n => f v[i]) :=
  table_ext fun i => by rw [table_map, table_ofFn]

/-- Settles O56: the step by its three cases. For the tenth, the statement's counters are the model's `countDown`,
`LineControl.tick` and `Port.tick`; with them the fields agree one by one. -/
theorem stepTakesTheFront : Obligations.StepTakesTheFront := by
  unfold Obligations.StepTakesTheFront
  refine ⟨fun c rest s => ⟨step_of_front c rest s, exec_answers_next c s⟩,
    fun s hq => ⟨fun c hdue => step_of_due hq hdue, step_of_idle hq⟩, ?_⟩
  intro s down polled windowed
  have hdown : down = countDown := by
    funext timer; cases timer <;> rfl
  have hpolled : polled = LineControl.tick := by
    funext x; simp only [polled, hdown, LineControl.tick]
  have hwindowed : windowed = Port.tick := by
    funext p; simp only [windowed, Port.tick]; cases p.sup.window <;> rfl
  rw [State.tick, hdown, hpolled, hwindowed]
  simp only [table_map_eq_ofFn]
  congr 1
  case e_transfer => cases s.transfer <;> rfl

end Sys2Proof.Machine
end

section
/-! Resets, the release of the reset line and the restart wait (R51, R153, R202, R203). -/

namespace Sys2Proof.Machine

open Sys2Proof

/-! ## The state right after a reset -/

/-- With every door in the inhibit set and the default range empty, each inhibited flag is the fuse itself (R47 to R49). -/
theorem inhibitedBy_reset (fuse : Bool) (i : DoorIx) :
    inhibitedBy fuse (BitVec.allOnes 24) Settings.default i = fuse := by
  revert fuse i; decide

/-- The doors after a reset are all alike, their inhibited flags the fuse (R51). -/
theorem resetDoors_eq (fuse : Bool) :
    Vector.ofFn (fun i : DoorIx =>
        DoorRuntime.reset .absent (inhibitedBy fuse (BitVec.allOnes 24) Settings.default i))
      = Vector.replicate 24 (DoorRuntime.reset .absent fuse) :=
  table_ext fun i => by rw [table_ofFn, inhibitedBy_reset]; simp

/-- The state a reset of any cause leaves: the reset state but for the fuse, the flags that follow it and the model's own
fields (R203). -/
theorem State.toReset_eq (s : State) (cause : ResetCause) :
    s.toReset cause =
      { State.reset with
        resetCause := cause
        schemeFuse := s.schemeFuse
        doors := Vector.replicate 24 (DoorRuntime.reset .absent s.schemeFuse)
        storeTorn := s.storeTorn || decide (s.storeEngine = .saving)
        choices := s.choices
        pending := s.pending } := by
  rw [State.toReset, resetDoors_eq]

/-! ## The restart wait -/

/-- In the restart wait the reset is due once each queue that took the DONE is empty (R203). -/
theorem State.restartDue_iff {s : State} {inA inB : Bool} (h : s.phase = .restartWait inA inB) :
    s.restartDue = true ↔
      (inA = true → s.ports.a.insertion = []) ∧ (inB = true → s.ports.b.insertion = []) := by
  cases inA <;> cases inB <;> simp [State.restartDue, Port.doneLeft, h]

/-- Outside the restart wait no reset is due (R203). -/
theorem State.restartDue_of_noWait {s : State} (h : ∀ inA inB : Bool, s.phase ≠ .restartWait inA inB) :
    s.restartDue = false := by
  unfold State.restartDue
  split
  case h_1 inA inB hphase => exact absurd hphase (h inA inB)
  all_goals rfl

theorem exec_restartReset_of_due {s : State} (straps : BitVec 7) (h : s.restartDue = true) :
    exec (.restartReset straps) s = .next ((s.toReset .order).beginStartUp straps) := by
  simp only [exec, execRestartReset, h, if_true]

theorem exec_restartReset_of_not_due {s : State} (straps : BitVec 7) (h : s.restartDue = false) :
    exec (.restartReset straps) s = .next s := by
  simp [exec, execRestartReset, h]

/-- Settles O3: every reset goes through `toReset`, and the RESTART's waits until `restartDue`. -/
theorem resetsAndRelease : Obligations.ResetsAndRelease := by
  unfold Obligations.ResetsAndRelease
  intro s straps fresh begun
  have hfresh : ∀ cause, fresh cause = s.toReset cause := fun cause => (s.toReset_eq cause).symm
  have hbegun : ∀ t, begun t = t.beginStartUp straps := fun _ => rfl
  simp only [hfresh, hbegun]
  refine ⟨rfl, rfl, fun hin => ?_, fun hout => ?_, fun inA inB hwait => ⟨fun hleft => ?_, fun hheld => ?_⟩,
    fun hno => exec_restartReset_of_not_due straps (s.restartDue_of_noWait hno)⟩
  · simp only [exec, execResetLineRelease, if_pos hin]
  · simp only [exec, execResetLineRelease, if_neg hout]
  · exact exec_restartReset_of_due straps ((State.restartDue_iff hwait).mpr hleft)
  · refine exec_restartReset_of_not_due straps (Bool.eq_false_iff.mpr fun hdue => ?_)
    obtain ⟨hA, hB⟩ := (State.restartDue_iff hwait).mp hdue
    rcases hheld with ⟨ha, hne⟩ | ⟨hb, hne⟩
    · exact hne (hA ha)
    · exact hne (hB hb)

end Sys2Proof.Machine
end

section
/-! INHIBIT, RELEASE and FIX-SCHEME: the inhibit set and the flags that follow it (R47, R49 to R51). -/

namespace Sys2Proof.Machine

open Sys2Proof

/-! ## Sets of doors -/

theorem inSet_doorBit (i j : DoorIx) : inSet (doorBit i) j = decide (i = j) := by
  revert i j; decide

theorem inSet_or (a b : DoorSet) (i : DoorIx) : inSet (a ||| b) i = (inSet a i || inSet b i) :=
  BitVec.getLsbD_or

theorem inSet_and_not (a b : DoorSet) (i : DoorIx) : inSet (a &&& ~~~b) i = (inSet a i && !inSet b i) := by
  have hi := i.isLt
  simp only [inSet, BitVec.getLsbD_and, BitVec.getLsbD_not, hi, decide_true, Bool.true_and]

/-- Two sets with the same members are the same. -/
theorem doorSet_ext {a b : DoorSet} (h : ∀ i, inSet a i = inSet b i) : a = b :=
  BitVec.eq_of_getLsbD_eq fun k hk => h ⟨k, hk⟩

/-- A door joins a set without a change exactly when it is in it. -/
theorem or_doorBit_eq_self (set : DoorSet) (i : DoorIx) : set ||| doorBit i = set ↔ inSet set i = true := by
  refine ⟨fun h => ?_, fun h => doorSet_ext fun j => ?_⟩
  · rw [← h, inSet_or, inSet_doorBit]; simp
  · rw [inSet_or, inSet_doorBit]
    by_cases hij : i = j
    · subst hij; simp [h]
    · simp [hij]

/-- A door leaves a set without a change exactly when it is not in it. -/
theorem and_not_doorBit_eq_self (set : DoorSet) (i : DoorIx) :
    set &&& ~~~(doorBit i) = set ↔ inSet set i = false := by
  refine ⟨fun h => ?_, fun h => doorSet_ext fun j => ?_⟩
  · rw [← h, inSet_and_not, inSet_doorBit]; simp
  · rw [inSet_and_not, inSet_doorBit]
    by_cases hij : i = j
    · subst hij; simp [h]
    · simp [hij]

/-! ## The flags that follow the scheme (R47) -/

/-- A door's record with a new inhibited flag: a change of the flag marks the door as changed (R5). -/
def DoorRuntime.withInhibited (d : DoorRuntime) (flag : Bool) : DoorRuntime :=
  { d with inhibited := flag, changed := d.changed || (flag != d.inhibited) }

theorem DoorRuntime.markChanged_inhibited (d : DoorRuntime) (flag : Bool) :
    DoorRuntime.markChanged { d with inhibited := flag } d = d.withInhibited flag := by
  rw [DoorRuntime.markChanged_eq, DoorRuntime.withInhibited]
  by_cases h : flag = d.inhibited <;> simp [DoorRuntime.indication, h, bne]

/-- The state with the inhibited flag of the doors of a list as `flag` gives it. -/
def State.flagDoors (s : State) (flag : DoorIx → Bool) (l : List DoorIx) : State :=
  { s with doors := Vector.ofFn fun j : DoorIx =>
      if j ∈ l then (s.doors[j]).withInhibited (flag j) else s.doors[j] }

@[simp] theorem State.flagDoors_nil (s : State) (flag : DoorIx → Bool) : s.flagDoors flag [] = s := by
  have : (Vector.ofFn fun j : DoorIx => s.doors[j]) = s.doors := table_ext fun i => table_ofFn _ i
  simp only [State.flagDoors, List.not_mem_nil, if_false, this]

theorem State.flagDoors_cons (s : State) (flag : DoorIx → Bool) {i : DoorIx} {l : List DoorIx} (hi : i ∉ l) :
    s.flagDoors flag (i :: l) = (s.setDoor i ((s.doors[i]).withInhibited (flag i))).flagDoors flag l := by
  have hdoors : (Vector.ofFn fun j : DoorIx =>
        if j ∈ i :: l then (s.doors[j]).withInhibited (flag j) else s.doors[j]) =
      Vector.ofFn fun j : DoorIx =>
        if j ∈ l then ((upd s.doors i ((s.doors[i]).withInhibited (flag i)))[j]).withInhibited (flag j)
        else (upd s.doors i ((s.doors[i]).withInhibited (flag i)))[j] := by
    refine table_ext fun j => ?_
    rw [table_ofFn, table_ofFn, upd_get]
    by_cases hj : i = j
    · subst hj; rw [if_pos List.mem_cons_self, if_neg hi, if_pos rfl]
    · simp only [List.mem_cons, Ne.symm hj, false_or, if_neg hj]
  exact congrArg (fun v => { s with doors := v }) hdoors

/-- The scheme recomputed for the doors of a list writes their flags and nothing else. -/
theorem Work.foldl_recompute (flag : DoorIx → Bool) : ∀ (l : List DoorIx) (w : Work), l.Nodup →
    (∀ i, w.st.inhibitedNow i = flag i) →
    l.foldl (fun w i => w.modify i (fun d => { d with inhibited := w.st.inhibitedNow i })) w =
      { w with st := w.st.flagDoors flag l }
  | [], w, _, _ => by rw [State.flagDoors_nil, List.foldl_nil]
  | i :: l, w, hl, hf => by
    obtain ⟨hi, hl⟩ := List.nodup_cons.mp hl
    have hhead : w.modify i (fun d => { d with inhibited := w.st.inhibitedNow i }) =
        { w with st := w.st.setDoor i ((w.st.doors[i]).withInhibited (flag i)) } := by
      rw [hf i, ← DoorRuntime.markChanged_inhibited]
      exact Work.put_of_state w i _ rfl
    rw [List.foldl_cons, hhead, State.flagDoors_cons w.st flag hi]
    exact Work.foldl_recompute flag l _ hl hf

theorem allDoors_nodup : allDoors.Nodup := by decide
theorem mem_allDoors (i : DoorIx) : i ∈ allDoors := by revert i; decide

/-- Recomputing the scheme writes every door's flag and touches nothing else (R47). -/
theorem Work.recomputeInhibit_eq (w : Work) :
    w.recomputeInhibit = { w with st := w.st.flagDoors w.st.inhibitedNow allDoors } :=
  Work.foldl_recompute w.st.inhibitedNow allDoors w allDoors_nodup fun _ => rfl

/-- The state of an INDIVIDUAL scheme whose inhibit set has just become `set`: every flag follows it (R49, R50). -/
def State.followsSet (s : State) (set : DoorSet) : State :=
  State.flagDoors { s with inhibitSet := set, schemeFuse := true } (inSet set) allDoors

theorem State.followsSet_eq (s : State) (set : DoorSet) :
    s.followsSet set =
      { s with
        inhibitSet := set
        schemeFuse := true
        doors := Vector.ofFn (fun j : DoorIx =>
          { s.doors[j] with
            inhibited := inSet set j
            changed := s.doors[j].changed || (inSet set j != s.doors[j].inhibited) }) } := by
  simp only [State.followsSet, State.flagDoors, mem_allDoors, if_true, DoorRuntime.withInhibited]

/-- With the fuse set, recomputing after a change of the set makes every flag follow it (R47). -/
theorem Work.recomputeInhibit_of_set (s : State) (set : DoorSet) :
    Work.recomputeInhibit (Work.start { s with inhibitSet := set, schemeFuse := true }) =
      Work.start (s.followsSet set) := by
  rw [Work.recomputeInhibit_eq]; rfl

/-! ## INHIBIT and RELEASE at the set (R50) -/

section
variable {s : State} {src door : Byte} {n : Slot} {i : DoorIx}

/-- The inhibit set after INHIBIT (`member`) or RELEASE of a door. -/
def State.inhibitSetAfter (s : State) (i : DoorIx) (member : Bool) : DoorSet :=
  if member then s.inhibitSet ||| doorBit i else s.inhibitSet &&& ~~~(doorBit i)

/-- The set stays exactly when the door already is as ordered. -/
theorem State.inhibitSetAfter_eq_self (s : State) (i : DoorIx) (member : Bool) :
    s.inhibitSetAfter i member = s.inhibitSet ↔ inSet s.inhibitSet i = member := by
  cases member
  · exact and_not_doorBit_eq_self _ _
  · exact or_doorBit_eq_self _ _

theorem Work.inhibitOrder_of_range (member : Bool) (hfuse : s.schemeFuse = false) :
    (Work.start s).inhibitOrder i member = (Work.start s, .badScheme) := by
  unfold Work.inhibitOrder
  exact if_pos hfuse

theorem Work.inhibitOrder_of_absent (member : Bool) (hfuse : s.schemeFuse = true) (hd : s.doors[i].state = .absent) :
    (Work.start s).inhibitOrder i member = (Work.start s, .noDoor) := by
  have hf : ¬ (Work.start s).st.schemeFuse = false := by simp [Work.start, hfuse]
  unfold Work.inhibitOrder
  rw [if_neg hf]
  exact if_pos hd

/-- An INHIBIT or RELEASE that finds the door as it orders changes nothing. -/
theorem Work.inhibitOrder_of_same (member : Bool) (hfuse : s.schemeFuse = true) (hd : s.doors[i].state ≠ .absent)
    (hset : inSet s.inhibitSet i = member) :
    (Work.start s).inhibitOrder i member = (Work.start s, .done) := by
  have hf : ¬ (Work.start s).st.schemeFuse = false := by simp [Work.start, hfuse]
  unfold Work.inhibitOrder
  rw [if_neg hf, if_neg (show ¬ ((Work.start s).door i).state = .absent from hd)]
  exact if_pos ((s.inhibitSetAfter_eq_self i member).mpr hset)

/-- Any other INHIBIT or RELEASE moves the set, and every flag follows. -/
theorem Work.inhibitOrder_of_change (member : Bool) (hfuse : s.schemeFuse = true) (hd : s.doors[i].state ≠ .absent)
    (hset : inSet s.inhibitSet i ≠ member) :
    (Work.start s).inhibitOrder i member = (Work.start (s.followsSet (s.inhibitSetAfter i member)), .done) := by
  have hf : ¬ (Work.start s).st.schemeFuse = false := by simp [Work.start, hfuse]
  rw [← Work.recomputeInhibit_of_set, ← hfuse]
  unfold Work.inhibitOrder
  rw [if_neg hf, if_neg (show ¬ ((Work.start s).door i).state = .absent from hd)]
  exact if_neg ((s.inhibitSetAfter_eq_self i member).not.mpr hset)

/-! ## The orders -/

theorem doorOfByte_of_val (h : door.toNat = i.val) : doorOfByte door = some i := by
  have hlt : door.toNat < 24 := h ▸ i.isLt
  rw [doorOfByte, dif_pos hlt]
  exact congrArg some (Fin.ext h)

/-- An event that owes nothing ends in its state with its answer. -/
theorem Work.finish_answer_start (t : State) (n : Slot) (tag : OrderTag) (o : OrderOutcome) :
    ((Work.start t).answer n tag o).finish = t.answer n tag o :=
  Work.finish_of_quiet _ rfl

/-- A door order of the holder whose owner leaves nothing owed: the owner's state, with its result. -/
theorem State.takeDoorOrder_of_owner (hears : s.Hears src n) (hdoor : door.toNat = i.val) (hold : s.holder = some n)
    {action : Byte} {owner : Work → DoorIx → Work × OrderOutcome} {t : State} {o : OrderOutcome}
    (hown : owner (Work.start s) i = (Work.start t, o)) :
    s.takeDoorOrder src action door .authority owner = t.answer n (OrderTag.doorOrder action door) o := by
  unfold State.takeDoorOrder
  rw [State.takeOrder_taken hears (State.rightsRefusal_authority hold)]
  simp only [doorOfByte_of_val hdoor, hown, Work.finish_answer_start]

theorem exec_inhibit_of_owner (hears : s.Hears src n) (hdoor : door.toNat = i.val) (hold : s.holder = some n)
    {t : State} {o : OrderOutcome} (hown : (Work.start s).inhibitOrder i true = (Work.start t, o)) :
    exec (.doorOrderInhibit src door) s = .next (t.answer n (OrderTag.doorOrder 5#8 door) o) :=
  congrArg Host.Outcome.next
    (State.takeDoorOrder_of_owner (owner := fun w i => w.inhibitOrder i true) hears hdoor hold hown)

theorem exec_release_of_owner (hears : s.Hears src n) (hdoor : door.toNat = i.val) (hold : s.holder = some n)
    {t : State} {o : OrderOutcome} (hown : (Work.start s).inhibitOrder i false = (Work.start t, o)) :
    exec (.doorOrderRelease src door) s = .next (t.answer n (OrderTag.doorOrder 6#8 door) o) :=
  congrArg Host.Outcome.next
    (State.takeDoorOrder_of_owner (owner := fun w i => w.inhibitOrder i false) hears hdoor hold hown)

/-- A FIX-SCHEME of a station with manage right, once the fuse is set or not (R51). -/
theorem exec_fixScheme_of_hears (hears : s.Hears src n) (hman : hasManage s.tables n = true) :
    exec (.fixScheme src) s =
      .next (State.answer (if s.schemeFuse = true then s else s.followsSet (BitVec.allOnes 24)) n
        OrderTag.fixScheme .done) := by
  have hfix : Work.fixScheme (Work.start s) =
      Work.start (if s.schemeFuse = true then s else s.followsSet (BitVec.allOnes 24)) := by
    by_cases hf : s.schemeFuse = true
    · rw [if_pos hf]; exact if_pos hf
    · rw [if_neg hf, ← Work.recomputeInhibit_of_set]; exact if_neg hf
  have htaken := State.takeOrder_taken hears (t := OrderTag.fixScheme) (need := .manage)
    (owner := fun n => ((Work.fixScheme (Work.start s)).answer n OrderTag.fixScheme .done).finish)
    (State.rightsRefusal_manage hman)
  simp only [hfix, Work.finish_answer_start] at htaken
  simp only [exec, execFixScheme, State.orderFixScheme, hfix, Work.finish_answer_start, htaken]

end

/-- Settles O45: INHIBIT and RELEASE by the rows of `inhibitOrder`, FIX-SCHEME by the fuse. -/
theorem inhibitScheme : Obligations.InhibitScheme := by
  unfold Obligations.InhibitScheme
  intro s src n follows hears
  have hfollows : ∀ set, follows set = s.followsSet set := fun set => (s.followsSet_eq set).symm
  simp only [hfollows]
  refine ⟨fun door i hdoor hold => ⟨fun hrange => ?_, fun hfuse habsent => ?_, fun hfuse hpresent =>
    ⟨fun hin => ?_, fun hout => ?_⟩⟩, fun hman => ⟨fun hfuse => ?_, fun hfuse => ?_⟩⟩
  · exact ⟨exec_inhibit_of_owner hears hdoor hold (Work.inhibitOrder_of_range true hrange),
      exec_release_of_owner hears hdoor hold (Work.inhibitOrder_of_range false hrange)⟩
  · exact ⟨exec_inhibit_of_owner hears hdoor hold (Work.inhibitOrder_of_absent true hfuse habsent),
      exec_release_of_owner hears hdoor hold (Work.inhibitOrder_of_absent false hfuse habsent)⟩
  · exact ⟨exec_inhibit_of_owner hears hdoor hold (Work.inhibitOrder_of_same true hfuse hpresent hin),
      exec_release_of_owner hears hdoor hold (Work.inhibitOrder_of_change false hfuse hpresent (by simp [hin]))⟩
  · exact ⟨exec_release_of_owner hears hdoor hold (Work.inhibitOrder_of_same false hfuse hpresent hout),
      exec_inhibit_of_owner hears hdoor hold (Work.inhibitOrder_of_change true hfuse hpresent (by simp [hout]))⟩
  · rw [exec_fixScheme_of_hears hears hman, if_pos hfuse]; rfl
  · rw [exec_fixScheme_of_hears hears hman, if_neg (by simp [hfuse])]; rfl

end Sys2Proof.Machine
end

section
/-! What an event does to the record of the one door it concerns: records written one after another, the door's activity
ended (R9), and a good report taken up to its local controls (R16, R36). -/

namespace Sys2Proof.Machine

open Sys2Proof

/-! ## The changed flag (R5) -/

section
variable (d old : DoorRuntime)

@[simp] theorem DoorRuntime.indication_state : d.indication.state = d.state := rfl
@[simp] theorem DoorRuntime.indication_queuedDir : d.indication.queuedDir = d.queuedDir := rfl
@[simp] theorem DoorRuntime.markChanged_state : (d.markChanged old).state = d.state := by
  rw [DoorRuntime.markChanged_eq]
@[simp] theorem DoorRuntime.markChanged_queuedDir : (d.markChanged old).queuedDir = d.queuedDir := by
  rw [DoorRuntime.markChanged_eq]

end

theorem DoorRuntime.markChanged_of_same {d old : DoorRuntime} (h : d.indication = old.indication) :
    d.markChanged old = d := if_pos h

theorem DoorRuntime.markChanged_of_ne {d old : DoorRuntime} (h : d.indication ≠ old.indication) :
    d.markChanged old = { d with changed := true } := if_neg h

/-! ## One door's record written -/

/-- The work with one door's record as given. -/
def Work.withRecord (w : Work) (i : DoorIx) (d : DoorRuntime) : Work := { w with st := w.st.setDoor i d }

section
variable (w : Work) (s : State) (i : DoorIx) (d e : DoorRuntime)

@[simp] theorem State.setDoor_setDoor : (s.setDoor i d).setDoor i e = s.setDoor i e := by
  simp only [State.setDoor, upd_upd]
@[simp] theorem State.setDoor_doors : (s.setDoor i d).doors[i] = d := upd_same _ _ _
@[simp] theorem State.setDoor_self : s.setDoor i s.doors[i] = s := by simp only [State.setDoor, upd_self]
@[simp] theorem Work.withRecord_door : (w.withRecord i d).door i = d := upd_same _ _ _
@[simp] theorem Work.withRecord_joins : (w.withRecord i d).joins = w.joins := rfl
@[simp] theorem Work.withRecord_st : (w.withRecord i d).st = w.st.setDoor i d := rfl
@[simp] theorem Work.withRecord_withRecord : (w.withRecord i d).withRecord i e = w.withRecord i e := by
  simp only [Work.withRecord, State.setDoor_setDoor]

end

/-- A door that no running step awaits is settled by nothing (R103). -/
theorem Work.settle_of_unawaited (w : Work) (i : DoorIx) (m : Mark) (h : w.st.Unawaited i) : w.settle i m = w := by
  rcases h with hstep | hmark
  · exact w.settle_of_noStep i m hstep
  · unfold Work.settle
    split
    · rw [if_neg hmark]
    all_goals rfl

/-- Entering `x`, door `i` sets no mark of a running step: `x` settles no door, or the step does not await this one. -/
def State.Unmarked (s : State) (i : DoorIx) (x : DoorState) : Prop :=
  (∀ k, markOnEntry k x = none) ∨ s.Unawaited i

/-- A record rewritten without a mark: the new record with its changed flag kept up (R5), and nothing else. -/
theorem Work.modify_unmarked (w : Work) (i : DoorIx) (f : DoorRuntime → DoorRuntime)
    (h : (f (w.door i)).state = (w.door i).state ∨ w.st.Unmarked i (f (w.door i)).state) :
    w.modify i f = w.withRecord i ((f (w.door i)).markChanged (w.door i)) := by
  rcases h with hstate | hnone | hun
  · exact w.put_of_state i _ hstate
  · exact w.put_of_mark i _ hnone
  · unfold Work.modify Work.put
    by_cases hs : (f (w.door i)).state = (w.door i).state
    · exact if_pos hs
    · refine (if_neg hs).trans ?_
      split
      · exact Work.settle_of_unawaited (w.withRecord i _) i _ hun
      · rfl

/-- A record rewritten with its indication kept: no changed flag (R5). -/
theorem Work.modify_quiet (w : Work) (i : DoorIx) (f : DoorRuntime → DoorRuntime)
    (h : (f (w.door i)).indication = (w.door i).indication) : w.modify i f = w.withRecord i (f (w.door i)) := by
  rw [w.modify_unmarked i f (.inl (congrArg Indication.state h)), DoorRuntime.markChanged_of_same h]

/-- A door entering another state, which settles it in no running step, is changed (R5). -/
theorem Work.modify_state (w : Work) (i : DoorIx) (f : DoorRuntime → DoorRuntime)
    (hne : (f (w.door i)).state ≠ (w.door i).state) (h : w.st.Unmarked i (f (w.door i)).state) :
    w.modify i f = w.withRecord i { f (w.door i) with changed := true } := by
  rw [w.modify_unmarked i f (.inr h), DoorRuntime.markChanged_of_ne fun heq => hne (congrArg Indication.state heq)]

/-- A door that enters QUEUED from another state or another direction is changed, and its claim is raised (R5, R60). -/
theorem Work.queue_eq (w : Work) (i : DoorIx) (dir : Dir) (o : Origin)
    (h : (w.door i).state ≠ .queued ∨ (w.door i).queuedDir ≠ dir) :
    w.queue i dir o =
      { w.withRecord i { w.door i with origin := o, state := .queued, queuedDir := dir, changed := true } with
        joins := w.joins ||| doorBit i } := by
  unfold Work.queue Work.raise
  rw [w.modify_unmarked i _ (.inl rfl), Work.modify_unmarked _ i _ (.inr (.inl fun _ => rfl))]
  simp only [Work.withRecord_door, Work.withRecord_withRecord, Work.withRecord_joins]
  rw [DoorRuntime.markChanged_of_ne]
  · rw [DoorRuntime.markChanged_eq]
  · intro heq
    have hstate := congrArg Indication.state heq
    have hdir := congrArg Indication.queuedDir heq
    simp only [DoorRuntime.indication_state, DoorRuntime.indication_queuedDir, DoorRuntime.markChanged_state,
      DoorRuntime.markChanged_queuedDir] at hstate hdir
    exact h.elim (fun hs => hs hstate.symm) (fun hd => hd hdir.symm)

/-! ## The door's activity ended (R9) -/

/-- Whether a door moves. -/
abbrev DoorRuntime.Moves (d : DoorRuntime) : Prop := d.state = .closing ∨ d.state = .opening

/-- A door's record with its current activity ended: its timer, or its counters and held load (R9). -/
def DoorRuntime.idled (d : DoorRuntime) : DoorRuntime :=
  { d with
    timer := if d.state = .warning ∨ d.state = .recloseWait then none else d.timer
    deadline := if d.Moves then { d.deadline with running := false } else d.deadline
    travel := if d.Moves then { d.travel with running := false } else d.travel
    heldLoad := if d.Moves then none else d.heldLoad }

/-- The groups whose queue is re-examined when door `i` gives back what it has: the one its load counts against, or the one
whose head it was (R61, R64, R67). -/
def State.Frees (s : State) (i : DoorIx) (g : GroupIx) : Prop :=
  ((s.doors[i]).Moves ∧ ∃ units, s.doors[i].heldLoad = some (g, units))
    ∨ (s.doors[i].state = .queued ∧ g = s.tables.doors[i].group
        ∧ s.groups[g].queue.head?.map Claim.door = some i)

/-- The queues due re-examination are among those due before and those door `i` frees. -/
def Work.DirtyBy (w : Work) (i : DoorIx) (dirty : GroupSet) : Prop :=
  ∀ g, inGroups dirty g = true → inGroups w.dirty g = true ∨ w.st.Frees i g

theorem inGroups_touch (dirty : GroupSet) (g h : GroupIx) :
    inGroups (dirty ||| groupBit g) h = true ↔ inGroups dirty h = true ∨ h = g := by
  have hbit : inGroups (groupBit g) h = decide (h = g) := by revert g h; decide
  unfold inGroups at *
  rw [BitVec.getLsbD_or, hbit]
  simp

theorem State.unload_setDoor (s : State) (i : DoorIx) (d e : DoorRuntime) :
    (s.setDoor i d).unload e = (s.unload e).setDoor i d := by
  unfold State.unload; split <;> rfl

/-- A door's held load released: the record without it, the group's in-use less it, and that group touched (R67). -/
theorem Work.release_record (w : Work) (i : DoorIx) :
    ∃ dirty, w.release i =
        { w with st := (w.st.unload (w.door i)).setDoor i { w.door i with heldLoad := none }, dirty := dirty }
      ∧ ∀ g, inGroups dirty g = true →
          inGroups w.dirty g = true ∨ ∃ units, (w.door i).heldLoad = some (g, units) := by
  unfold Work.release State.unload
  cases hload : (w.door i).heldLoad with
  | none =>
    have hdoor : { w.door i with heldLoad := none } = w.st.doors[i] := by rw [← hload]; rfl
    exact ⟨w.dirty, by rw [hdoor, State.setDoor_self], fun g hg => .inl hg⟩
  | some load =>
    obtain ⟨g, units⟩ := load
    refine ⟨w.dirty ||| groupBit g, ?_, fun h hh => ?_⟩
    · simp only [Work.modify_quiet w i (fun d => { d with heldLoad := none }) rfl]
      rfl
    · exact ((inGroups_touch _ _ _).mp hh).imp_right fun heq => ⟨units, by rw [heq]⟩

theorem DoorRuntime.idled_of_moves {d : DoorRuntime} (h : d.Moves) :
    d.idled = { d.stopTravel with heldLoad := none } := by
  have ht : ¬ (d.state = .warning ∨ d.state = .recloseWait) := by rcases h with h | h <;> simp [h]
  simp only [DoorRuntime.idled, if_pos h, if_neg ht]
  rfl

theorem DoorRuntime.idled_of_waits {d : DoorRuntime} (h : d.state = .warning ∨ d.state = .recloseWait) :
    d.idled = { d with timer := none } := by
  have hm : ¬ d.Moves := by rcases h with h | h <;> simp [h]
  simp only [DoorRuntime.idled, if_pos h, if_neg hm]

theorem DoorRuntime.idled_of_still {d : DoorRuntime} (hm : ¬ d.Moves)
    (ht : ¬ (d.state = .warning ∨ d.state = .recloseWait)) : d.idled = d := by
  simp only [DoorRuntime.idled, if_neg hm, if_neg ht]

theorem DoorRuntime.still_of_queued {d : DoorRuntime} (h : d.state = .queued) :
    ¬ d.Moves ∧ ¬ (d.state = .warning ∨ d.state = .recloseWait) := by simp [h]

theorem DoorRuntime.still_of_waits {d : DoorRuntime} (h : d.state = .warning ∨ d.state = .recloseWait) :
    ¬ d.Moves ∧ d.state ≠ .queued := by rcases h with h | h <;> simp [h]

theorem State.giveBack_of_still {s : State} {i : DoorIx} (hm : ¬ (s.doors[i]).Moves)
    (hq : s.doors[i].state ≠ .queued) : s.giveBack i = s := (if_neg hm).trans (if_neg hq)

theorem State.giveBack_of_queued {s : State} {i : DoorIx} (hq : s.doors[i].state = .queued) :
    s.giveBack i = s.unqueue i := (if_neg (DoorRuntime.still_of_queued hq).1).trans (if_pos hq)

/-- Door `i` given back and its record idled, the queues it frees due re-examination: R9's effect on a cancelled door. -/
def Work.Ended (w : Work) (i : DoorIx) (u : Work) : Prop :=
  ∃ dirty, u = { w with st := (w.st.giveBack i).setDoor i (w.door i).idled, dirty := dirty } ∧ w.DirtyBy i dirty

/-- A moving door stopped and its load released (R9). -/
theorem Work.ended_of_moves {w : Work} {i : DoorIx} (hm : (w.door i).Moves) :
    w.Ended i ((w.modify i DoorRuntime.stopTravel).release i) := by
  obtain ⟨dirty, heq, hdirty⟩ := (w.withRecord i (w.door i).stopTravel).release_record i
  have hback : w.st.giveBack i = w.st.unload (w.door i) := if_pos hm
  have hload : w.st.unload (w.door i).stopTravel = w.st.unload (w.door i) := rfl
  refine ⟨dirty, ?_, fun g hg => (hdirty g hg).imp_right fun hload => ?_⟩
  · rw [w.modify_quiet i _ rfl, heq, hback, DoorRuntime.idled_of_moves hm]
    simp only [Work.withRecord_door, Work.withRecord_st, State.unload_setDoor, State.setDoor_setDoor, hload]
    rfl
  · rw [Work.withRecord_door] at hload
    exact .inl ⟨hm, hload⟩

/-- A waiting door's timer stopped (R9). -/
theorem Work.ended_of_waits {w : Work} {i : DoorIx}
    (ht : (w.door i).state = .warning ∨ (w.door i).state = .recloseWait) :
    w.Ended i (w.modify i (fun d => { d with timer := none })) := by
  have hback : w.st.giveBack i = w.st :=
    State.giveBack_of_still (DoorRuntime.still_of_waits ht).1 (DoorRuntime.still_of_waits ht).2
  refine ⟨w.dirty, ?_, fun g hg => .inl hg⟩
  rw [w.modify_quiet i _ rfl, hback, DoorRuntime.idled_of_waits ht]
  rfl

/-- A queued door's claim removed (R9, R61). -/
theorem Work.ended_of_queued {w : Work} {i : DoorIx} (hj : w.joins = 0) (hq : (w.door i).state = .queued) :
    w.Ended i (w.unclaim i) := by
  have hidle : (w.door i).idled = (w.st.unqueue i).doors[i] := 
    DoorRuntime.idled_of_still (DoorRuntime.still_of_queued hq).1 (DoorRuntime.still_of_queued hq).2
  rw [w.unclaim_of_joins i hj]
  simp only
  unfold Work.Ended
  rw [State.giveBack_of_queued hq, hidle, State.setDoor_self]
  split
  case isTrue hhead =>
    refine ⟨w.dirty ||| groupBit (w.groupOf i), rfl, fun g hg => ?_⟩
    exact ((inGroups_touch _ _ _).mp hg).imp_right fun hgroup => .inr ⟨hq, hgroup, hgroup ▸ hhead⟩
  case isFalse => exact ⟨w.dirty, rfl, fun g hg => .inl hg⟩

/-- A resting door, or one without activity, is left as it is (R9). -/
theorem Work.ended_of_still {w : Work} {i : DoorIx} (hm : ¬ (w.door i).Moves)
    (ht : ¬ ((w.door i).state = .warning ∨ (w.door i).state = .recloseWait)) (hq : (w.door i).state ≠ .queued) :
    w.Ended i w := by
  refine ⟨w.dirty, ?_, fun g hg => .inl hg⟩
  rw [State.giveBack_of_still hm hq, DoorRuntime.idled_of_still hm ht]
  exact congrArg (fun s => { w with st := s }) (State.setDoor_self w.st i).symm

/-- R9: what `cancel` does to a door, no claim being raised in the event. -/
theorem Work.cancel_ended (w : Work) (i : DoorIx) (hj : w.joins = 0) : w.Ended i (w.cancel i) := by
  unfold Work.cancel
  cases hs : (w.door i).state
  case queued => exact Work.ended_of_queued hj hs
  case warning => exact Work.ended_of_waits (.inl hs)
  case recloseWait => exact Work.ended_of_waits (.inr hs)
  case closing => exact Work.ended_of_moves (.inl hs)
  case opening => exact Work.ended_of_moves (.inr hs)
  all_goals exact Work.ended_of_still (by simp [hs]) (by simp [hs]) (by simp [hs])

/-! ## A report taken up to the local controls (R16, R36) -/

/-- A door that is present, reports and has no fault standing. -/
abbrev DoorRuntime.Known (d : DoorRuntime) : Prop := d.state ≠ .absent ∧ d.state ≠ .unknown ∧ d.state ≠ .fault

theorem DoorRuntime.known_of_state {d : DoorRuntime} {x : DoorState} (h : d.state = x)
    (hx : x ≠ .absent ∧ x ≠ .unknown ∧ x ≠ .fault) : d.Known := by
  subst h; exact hx

/-- A door's record with a good report's hand pump and side levels stored (R20, R36). -/
def DoorRuntime.hears (d : DoorRuntime) (r : DoorReport) : DoorRuntime :=
  { d with manual := r.handPump, sideA := r.sideA, sideB := r.sideB }

/-- A good report that leaves a door to its local controls: no fault, no conflict, no hand pump, limits as the state has
them. -/
structure DoorReport.OnlyControls (r : DoorReport) (d : DoorRuntime) : Prop where
  manual : d.manual = false
  handPump : r.handPump = false
  unitFault : r.unitFault = .none
  limits : r.conflicting = false
  kept : d.KeptBy r
  known : d.Known

/-- Limits that keep a door's state are taken without effect (R14, R19). -/
theorem Work.takeLimits_of_kept (w : Work) (i : DoorIx) (r : DoorReport)
    (hk : (w.door i).KeptBy r) : w.takeLimits i r = w := by
  obtain ⟨hclosed, hopened, hstopped, hcloses, hopens⟩ := hk
  unfold Work.takeLimits
  cases hs : (w.door i).state <;> simp only [hs]
  case closed => exact if_pos (by simp [DoorReport.restState, hclosed hs])
  case opened => exact if_pos (by simp [DoorReport.restState, hopened hs])
  case stopped => exact if_pos (by simp [DoorReport.restState, hstopped hs])
  case warning => exact if_neg (by simp [DoorReport.closedAlone, hcloses (.inl hs)])
  case recloseWait => exact if_neg (by simp [DoorReport.closedAlone, hcloses (.inr (.inl hs))])
  case closing => exact if_neg (by simp [DoorReport.closedAlone, hcloses (.inr (.inr (.inl hs)))])
  case opening => exact if_neg (by simp [DoorReport.openAlone, hopens (.inl hs)])
  case queued =>
    by_cases hdir : (w.door i).queuedDir = .close
    · rw [if_pos hdir]
      exact if_neg (by simp [DoorReport.closedAlone, hcloses (.inr (.inr (.inr ⟨hs, hdir⟩)))])
    · rw [if_neg hdir]
      have hopen : (w.door i).queuedDir = .open := by cases h : (w.door i).queuedDir <;> simp_all
      exact if_neg (by simp [DoorReport.openAlone, hopens (.inr ⟨hs, hopen⟩)])

/-- R36: such a report comes down to the release and the press of its resolved level, and the door is due the sea reclose
rule. -/
theorem Work.takeReport_of_onlyControls (w : Work) (i : DoorIx) (r : DoorReport) (h : r.OnlyControls (w.door i)) :
    w.takeReport i r =
      ((w.withRecord i ((w.door i).hears r)).localControls i
        (resolve (w.door i).sideA (w.door i).sideB) (resolve r.sideA r.sideB)).dueReclose i := by
  obtain ⟨hman, hpump, hunit, hconf, hkept, habs, hunk, hfault⟩ := h
  have hind : ((w.door i).hears r).indication = (w.door i).indication := by
    simp only [DoorRuntime.indication, DoorRuntime.hears, hman, hpump]
  have hstore : w.modify i (fun d => { d with manual := r.handPump, sideA := r.sideA, sideB := r.sideB }) =
      w.withRecord i ((w.door i).hears r) := w.modify_quiet i (fun d => d.hears r) hind
  unfold Work.takeReport
  rw [if_neg habs]
  simp only [hstore]
  generalize hw : w.withRecord i ((w.door i).hears r) = u
  have hdoor : u.door i = (w.door i).hears r := by rw [← hw, Work.withRecord_door]
  have hstate : (u.door i).state = (w.door i).state := by rw [hdoor]; rfl
  have hmanual : u.manualChange i (w.door i).manual = u := if_pos (.inl (by rw [hdoor, hman]; exact hpump))
  have hlimits : u.takeLimits i r = u := u.takeLimits_of_kept i r (by rw [hdoor]; exact hkept)
  unfold Work.reportChecks
  simp [hunk, hstate, hfault, hconf, hunit, hmanual, hlimits]

end Sys2Proof.Machine
end

section
/-! The local controls of a door: a press of OPEN or CLOSE and a release, from the report that carries them to the state they
leave (R36 to R46, R52). -/

namespace Sys2Proof.Machine

open Sys2Proof

/-! ## An event about one door -/

/-- The middle of an event about door `i`: its record `d` over the state `s`, with queues due re-examination and nothing else
owed. -/
def Work.eventAt (s : State) (i : DoorIx) (d : DoorRuntime) (dirty : GroupSet) : Work :=
  { Work.start (s.setDoor i d) with dirty := dirty }

section
variable (s : State) (i : DoorIx) (d e : DoorRuntime) (dirty : GroupSet)

@[simp] theorem Work.eventAt_door : (Work.eventAt s i d dirty).door i = d := upd_same _ _ _
@[simp] theorem Work.eventAt_st : (Work.eventAt s i d dirty).st = s.setDoor i d := rfl
@[simp] theorem Work.eventAt_withRecord :
    (Work.eventAt s i d dirty).withRecord i e = Work.eventAt s i e dirty := by
  simp only [Work.eventAt, Work.withRecord, Work.start, State.setDoor_setDoor]
theorem Work.eventAt_self : Work.eventAt s i s.doors[i] 0 = Work.start s := by
  simp only [Work.eventAt, State.setDoor_self]; rfl

/-- A record rewritten in the middle of the event, its state kept. -/
theorem Work.eventAt_modify {f : DoorRuntime → DoorRuntime} (h : (f d).state = d.state) :
    (Work.eventAt s i d dirty).modify i f = Work.eventAt s i ((f d).markChanged d) dirty := by
  rw [Work.modify_unmarked _ _ _ (.inl (by rw [Work.eventAt_door]; exact h)), Work.eventAt_door,
    Work.eventAt_withRecord]

theorem State.giveBack_setDoor (hstate : e.state = s.doors[i].state) (hload : e.heldLoad = s.doors[i].heldLoad) :
    (s.setDoor i e).giveBack i = (s.giveBack i).setDoor i e := by
  have hunload : (s.setDoor i e).unload e = (s.unload s.doors[i]).setDoor i e := by
    rw [State.unload_setDoor]; unfold State.unload; rw [hload]
  unfold State.giveBack
  simp only [State.setDoor_doors, hstate, hunload]
  split_ifs <;> rfl

theorem State.frees_setDoor (g : GroupIx) (hstate : e.state = s.doors[i].state)
    (hload : e.heldLoad = s.doors[i].heldLoad) : (s.setDoor i e).Frees i g ↔ s.Frees i g := by
  unfold State.Frees
  rw [State.setDoor_doors, hload, DoorRuntime.Moves, hstate]
  rfl

end

/-- The same with the door's claim raised and still to join its queue (R60). -/
def Work.raisedAt (s : State) (i : DoorIx) (d : DoorRuntime) (dirty : GroupSet) : Work :=
  { Work.eventAt s i d dirty with joins := doorBit i }

theorem Work.eventAt_queue {s : State} {i : DoorIx} {d : DoorRuntime} {dirty : GroupSet} {dir : Dir} (o : Origin)
    (h : d.state ≠ .queued ∨ d.queuedDir ≠ dir) :
    (Work.eventAt s i d dirty).queue i dir o =
      Work.raisedAt s i { d with origin := o, state := .queued, queuedDir := dir, changed := true } dirty := by
  rw [Work.queue_eq _ _ _ _ (by rw [Work.eventAt_door]; exact h), Work.eventAt_door, Work.eventAt_withRecord]
  exact congrArg (fun x => { Work.eventAt s i _ dirty with joins := x }) BitVec.zero_or

/-- No group is in the empty set. -/
theorem inGroups_empty (g : GroupIx) : inGroups 0 g ≠ true := by revert g; decide

/-- R9 at the start of an event: door `i` given back, its record idled, the queues it frees due. -/
theorem Work.eventAt_cancel {s : State} {i : DoorIx} {d : DoorRuntime} (hstate : d.state = s.doors[i].state)
    (hload : d.heldLoad = s.doors[i].heldLoad) :
    ∃ dirty, (Work.eventAt s i d 0).cancel i = Work.eventAt (s.giveBack i) i d.idled dirty
      ∧ ∀ g, inGroups dirty g = true → s.Frees i g := by
  obtain ⟨dirty, heq, hdirty⟩ := (Work.eventAt s i d 0).cancel_ended i rfl
  refine ⟨dirty, ?_, fun g hg => ?_⟩
  · rw [heq, Work.eventAt_st, State.giveBack_setDoor s i d hstate hload, Work.eventAt_door, State.setDoor_setDoor]
    rfl
  · refine ((hdirty g hg).resolve_left ?_ |> (s.frees_setDoor i d g hstate hload).mp)
    exact inGroups_empty g

/-- Such an event ends with the door's record when the sea reclose rule does not take the door and no freed head fits. -/
theorem Work.finish_eventAt {s : State} {i : DoorIx} {d : DoorRuntime} {dirty : GroupSet}
    (hrule : (s.setDoor i d).recloses i = false) (hq : ∀ g, inGroups dirty g = true → s.headStays g) :
    ((Work.eventAt s i d dirty).dueReclose i).finish = s.setDoor i d := by
  refine Work.finish_settled _ rfl rfl rfl (fun j hj => ?_) hq
  have hdue : members ((Work.eventAt s i d dirty).dueReclose i).due = [i] := by
    rw [Work.dueReclose_due, ← members_doorBit]; exact congrArg members (BitVec.zero_or)
  rw [hdue, List.mem_singleton] at hj
  rw [hj]; exact hrule

theorem State.fits_setQueue (s : State) (g h : GroupIx) (q : List Claim) (c : Claim) :
    (s.setGroup g { s.groups[g] with queue := q }).fits h c = s.fits h c := by
  unfold State.fits State.capacity State.setGroup
  simp only [upd_get]
  by_cases hg : g = h
  · subst hg; rw [if_pos rfl]
  · rw [if_neg hg]

/-- A claim joins a queue, which is then due: the queue it leaves named (R59, R60). -/
theorem Work.join_eq {w : Work} {i : DoorIx} {g : GroupIx} {q : List Claim}
    (hq : joinQueue w.st.groups[g].queue { door := i, dir := (w.door i).queuedDir } = q) :
    w.join i g = Work.touch { w with st := w.st.setGroup g { w.st.groups[g] with queue := q } } g := by
  rw [← hq]; rfl

/-- One raised claim joins the queue of its door's group, which is then due (R59, R60). -/
theorem Work.joinAll_one {w : Work} {i : DoorIx} (h : w.joins = doorBit i) :
    w.joinAll = Work.join { w with joins := 0 } i (w.groupOf i) := by
  unfold Work.joinAll
  rw [h, members_doorBit]
  rfl

/-- A door neither OPEN nor STOPPED is not reclosed (R30). -/
theorem State.recloses_of_moved {s : State} {i : DoorIx}
    (h : ¬ (s.doors[i].state = .opened ∨ s.doors[i].state = .stopped)) : s.recloses i = false := by
  obtain ⟨h1, h2⟩ := not_or.mp h
  unfold State.recloses
  simp only [h1, h2, decide_false, Bool.or_false, Bool.and_false, Bool.false_and]

theorem State.recloses_of_working {s : State} {i : DoorIx} (h : s.mode = .working) : s.recloses i = false := by
  unfold State.recloses
  simp only [h, reduceCtorEq, decide_false, Bool.false_and]

/-- The head of another queue, or of the same one, after a queue was replaced. -/
theorem State.headStays_setQueue {s : State} {g h : GroupIx} {q : List Claim}
    (hq : ∀ c, q.head? = some c → s.fits g c = false) (hh : h = g ∨ s.headStays h) :
    (s.setGroup g { s.groups[g] with queue := q }).headStays h := by
  intro c hc
  rw [State.fits_setQueue]
  simp only [State.setGroup, upd_get] at hc
  by_cases hg : g = h
  · subst hg; rw [if_pos rfl] at hc; exact hq c hc
  · rw [if_neg hg] at hc; exact hh.resolve_left (fun e => hg e.symm) c hc

/-- Such an event of a door whose claim is raised ends with the claim in its queue when no head then fits (R59, R60). -/
theorem Work.finish_raisedAt {s : State} {i : DoorIx} {d : DoorRuntime} {dirty : GroupSet} {g : GroupIx}
    {q : List Claim} (hgroup : s.tables.doors[i].group = g) (hstate : d.state = .queued)
    (hqueue : joinQueue s.groups[g].queue { door := i, dir := d.queuedDir } = q)
    (hhead : ∀ c, q.head? = some c → s.fits g c = false)
    (hq : ∀ h, inGroups dirty h = true → h = g ∨ s.headStays h) :
    ((Work.raisedAt s i d dirty).dueReclose i).finish =
      (s.setDoor i d).setGroup g { s.groups[g] with queue := q } := by
  generalize hw : (Work.raisedAt s i d dirty).dueReclose i = w
  have hst : w.st = s.setDoor i d := by rw [← hw]; rfl
  have hdue : members w.due = [i] := by
    rw [← hw, Work.dueReclose_due, ← members_doorBit]; exact congrArg members (BitVec.zero_or)
  have hdoor : w.door i = d := by rw [Work.door, hst, State.setDoor_doors]
  have hgroups : w.groupOf i = g := by rw [Work.groupOf, hst]; exact hgroup
  have hjoin : w.joinAll = Work.touch { w with
      joins := 0, st := w.st.setGroup g { w.st.groups[g] with queue := q } } g := by
    rw [Work.joinAll_one (by rw [← hw]; rfl), hgroups]
    refine Work.join_eq (w := { w with joins := 0 }) ?_
    rw [show ({ w with joins := 0 } : Work).door i = d from hdoor, show ({ w with joins := 0 } : Work).st = _ from hst]
    exact hqueue
  rw [w.finish_joins (by rw [← hw]; rfl) (by rw [← hw]; rfl), hjoin]
  · rw [hst]; rfl
  · intro j hj
    rw [hdue, List.mem_singleton] at hj
    rw [hj, hst]
    exact State.recloses_of_moved (by rw [State.setDoor_doors, hstate]; simp)
  · intro h hh
    rw [hjoin] at hh ⊢
    rw [Work.touch_dirty, inGroups_touch] at hh
    have hdirty : h = g ∨ s.headStays h := hh.elim (fun hd => hq h (by rw [← hw] at hd; exact hd)) .inl
    rw [hst]
    exact State.headStays_setQueue (s := s.setDoor i d) hhead hdirty

theorem State.unload_queue (s : State) (d : DoorRuntime) (g : GroupIx) :
    (s.unload d).groups[g].queue = s.groups[g].queue := by
  unfold State.unload
  split
  case h_1 k units _ =>
    simp only [State.setGroup, upd_get]
    split_ifs with h
    · rw [h]
    · rfl
  case h_2 => rfl

/-- A moving door for whose load nobody waits frees a queue that stands empty (R64, R67). -/
theorem State.headStays_of_load {s : State} {i : DoorIx} {g : GroupIx} {units : Nat} (hm : (s.doors[i]).Moves)
    (hwait : s.NobodyWaitsFor s.doors[i]) (hload : s.doors[i].heldLoad = some (g, units)) :
    (s.giveBack i).headStays g := by
  intro c hc
  rw [show s.giveBack i = s.unload s.doors[i] from if_pos hm, State.unload_queue, hwait g units hload] at hc
  cases hc

/-- A door that nobody gains from leaves no head that fits (R61, R62, R64). -/
theorem State.headStays_of_nobodyGains {s : State} {i : DoorIx} {g : GroupIx} (hgain : s.NobodyGains i)
    (h : s.Frees i g) : (s.giveBack i).headStays g := by
  obtain ⟨hmoves, hqueued⟩ := hgain
  rcases h with ⟨hm, units, hload⟩ | ⟨hq, hgroup, hhead⟩
  · exact State.headStays_of_load hm (hmoves hm) hload
  · subst hgroup
    intro c hc
    rw [State.giveBack_of_queued hq] at hc ⊢
    unfold State.unqueue at hc ⊢
    rw [State.fits_setQueue]
    rw [State.setGroup, upd_same] at hc
    exact hqueued hq hhead c hc

/-! ## The report that carries the controls -/

/-- Door `i`'s record once a good report is stored: its line's return marks it changed (R5), its hand pump and side levels are
the report's (R20, R36). -/
def State.heardRecord (s : State) (i : DoorIx) (r : DoorReport) : DoorRuntime :=
  DoorRuntime.hears { s.doors[i] with
    changed := s.doors[i].changed || crossesLost s.doorLines[i].ctl.line .good } r

section
variable (s : State) (i : DoorIx) (r : DoorReport)

@[simp] theorem State.heardRecord_state : (s.heardRecord i r).state = s.doors[i].state := rfl

end

/-- From a line that is not LOST the record is the door's own with the side levels stored. -/
theorem State.heardRecord_of_line {s : State} {i : DoorIx} {r : DoorReport} (hline : s.doorLines[i].ctl.line ≠ .lost)
    (hman : s.doors[i].manual = r.handPump) :
    s.heardRecord i r = { s.doors[i] with sideA := r.sideA, sideB := r.sideB } := by
  have hcross : crossesLost s.doorLines[i].ctl.line .good = false := by
    unfold crossesLost; rw [decide_eq_false hline]; rfl
  unfold State.heardRecord DoorRuntime.hears
  rw [hcross, Bool.or_false, ← hman]

/-- With its activity ended and its changed flag set it is the record of the claims. -/
theorem State.heardRecord_ended {s : State} {i : DoorIx} {r : DoorReport} (hman : s.doors[i].manual = r.handPump) :
    { (s.heardRecord i r).idled with changed := true } = (s.doors[i]).ended r := by
  unfold State.heardRecord DoorRuntime.hears DoorRuntime.idled DoorRuntime.ended
  rw [← hman]

/-- R36: a report that leaves a door to its local controls comes down to their release and press. -/
theorem exec_doorReport_of_onlyControls {s : State} {i : DoorIx} {bytes : List Byte} {r : DoorReport}
    (hrec : s.Receives i bytes r) (h : r.OnlyControls s.doors[i]) :
    exec (.doorReportArrival i bytes) s =
      .next (((Work.eventAt (s.heard i r) i (s.heardRecord i r) 0).localControls i
        (resolve s.doors[i].sideA s.doors[i].sideB) (resolve r.sideA r.sideB)).dueReclose i).finish := by
  rw [exec_doorReport_of_receives hrec]
  have hmark : (Work.start (s.heard i r)).markLine i s.doorLines[i].ctl.line .good =
      Work.eventAt (s.heard i r) i { s.doors[i] with
        changed := s.doors[i].changed || crossesLost s.doorLines[i].ctl.line .good } 0 := by
    unfold Work.markLine
    cases crossesLost s.doorLines[i].ctl.line .good with
    | false =>
      rw [if_neg Bool.false_ne_true, Bool.or_false]
      exact (Work.eventAt_self (s.heard i r) i).symm
    | true =>
      rw [if_pos rfl, Bool.or_true]
      exact Work.modify_quiet (Work.start (s.heard i r)) i (fun d => { d with changed := true }) rfl
  rw [hmark, Work.takeReport_of_onlyControls]
  · rw [Work.eventAt_door, Work.eventAt_withRecord]; rfl
  · rw [Work.eventAt_door]; exact ⟨h.manual, h.handPump, h.unitFault, h.limits, h.kept, h.known⟩

/-! ## Presses and releases -/

section
variable {w : Work} {i : DoorIx}

/-- A press without a release (R36). -/
theorem Work.localControls_press {new : Level} (h : new ≠ .none) : w.localControls i .none new = w.localPress i new := by
  unfold Work.localControls
  rw [if_neg (Ne.symm h)]
  exact if_neg h

/-- A release without a press (R36). -/
theorem Work.localControls_release {old : Level} (h : old ≠ .none) :
    w.localControls i old .none = w.localRelease i old := by
  unfold Work.localControls
  rw [if_neg h, if_neg h]
  exact if_pos rfl

/-- A press of CLOSE is a close order without pre-warning, in either mode (R40, R45). -/
theorem Work.localPress_close (h : (w.door i).takesLocal = true) :
    w.localPress i .close = w.closeOrder i .localCtl false := by
  unfold Work.localPress
  rw [if_pos h]
  cases w.st.mode <;> rfl

/-- A press of OPEN is an open request in WORKING mode and a passage request in SEA mode (R39, R43). -/
theorem Work.localPress_open (h : (w.door i).takesLocal = true) :
    w.localPress i .open = if w.st.mode = .sea then w.passageRequest i else w.localOpen i := by
  unfold Work.localPress
  rw [if_pos h]
  cases w.st.mode <;> rfl

/-- A release in WORKING mode concerns HOLD doors alone (R41). -/
theorem Work.localRelease_working (l : Level) (h : (w.door i).takesLocal = true) (hm : w.st.mode = .working) :
    w.localRelease i l = w.holdRelease i l := by
  unfold Work.localRelease
  rw [if_pos h, hm]

/-- A release of OPEN in SEA mode ends a passage (R44). -/
theorem Work.localRelease_sea_open (h : (w.door i).takesLocal = true) (hm : w.st.mode = .sea) :
    w.localRelease i .open = w.passageRelease i := by
  unfold Work.localRelease
  rw [if_pos h, hm]

end

/-- A door without hand pump in a known state takes local requests (R37). -/
theorem DoorRuntime.takesLocal_of_known {d : DoorRuntime} (hm : d.manual = false)
    (hk : d.Known) : d.takesLocal = true := by
  simp [DoorRuntime.takesLocal, hm, hk]

/-- Door `i`'s controls rest until a good report presses a level and changes nothing else (R36). -/
structure State.Presses (s : State) (i : DoorIx) (bytes : List Byte) (r : DoorReport) (l : Level) : Prop where
  receives : s.Receives i bytes r
  only : r.OnlyControls s.doors[i]
  before : resolve s.doors[i].sideA s.doors[i].sideB = .none
  now : resolve r.sideA r.sideB = l
  pressed : l ≠ .none

/-- Door `i`'s controls show a level until a good report releases it and changes nothing else (R36). -/
structure State.Releases (s : State) (i : DoorIx) (bytes : List Byte) (r : DoorReport) (l : Level) : Prop where
  receives : s.Receives i bytes r
  only : r.OnlyControls s.doors[i]
  before : resolve s.doors[i].sideA s.doors[i].sideB = l
  now : resolve r.sideA r.sideB = .none
  pressed : l ≠ .none

section
variable {s : State} {i : DoorIx} {bytes : List Byte} {r : DoorReport} {l : Level}

/-- The stored record takes local requests (R37). -/
theorem DoorReport.OnlyControls.takesLocal (h : r.OnlyControls s.doors[i]) (w : Work)
    (hw : w.door i = s.heardRecord i r) : (w.door i).takesLocal = true := by
  rw [hw]; exact DoorRuntime.takesLocal_of_known h.handPump h.known

theorem DoorReport.OnlyControls.manual_eq {d : DoorRuntime} (h : r.OnlyControls d) : d.manual = r.handPump :=
  h.manual.trans h.handPump.symm

theorem exec_of_presses (h : s.Presses i bytes r l) :
    exec (.doorReportArrival i bytes) s =
      .next (((Work.eventAt (s.heard i r) i (s.heardRecord i r) 0).localPress i l).dueReclose i).finish := by
  rw [exec_doorReport_of_onlyControls h.receives h.only, h.before, h.now, Work.localControls_press h.pressed]

theorem exec_of_releases (h : s.Releases i bytes r l) :
    exec (.doorReportArrival i bytes) s =
      .next (((Work.eventAt (s.heard i r) i (s.heardRecord i r) 0).localRelease i l).dueReclose i).finish := by
  rw [exec_doorReport_of_onlyControls h.receives h.only, h.before, h.now, Work.localControls_release h.pressed]

end

end Sys2Proof.Machine
end

section
/-! A press of OPEN at a CLOSED door and a press of CLOSE (R9, R11, R36, R39, R40, R43, R45, R52, R59, R60). -/

namespace Sys2Proof.Machine

open Sys2Proof

/-! ## A press of OPEN at a CLOSED door -/

/-- The record of a closed door that takes an open request: QUEUED(open) with origin LOCAL, a passage at sea (R39, R43). -/
def DoorRuntime.askedOpen (d : DoorRuntime) (sea : Bool) : DoorRuntime :=
  { d with
    state := .queued, queuedDir := .open, origin := .localCtl, passage := d.passage || sea, changed := true }

theorem Work.cancel_of_closed {w : Work} {i : DoorIx} (h : (w.door i).state = .closed) : w.cancel i = w := by
  unfold Work.cancel; rw [h]

/-- R52: at an inhibited closed door the press is refused, in either mode. -/
theorem Work.pressOpen_of_inhibited {s : State} {i : DoorIx} {d : DoorRuntime} (hs : d.state = .closed)
    (ht : d.takesLocal = true) (hi : d.inhibited = true) :
    (Work.eventAt s i d 0).localPress i .open =
      Work.eventAt s i { d with localRefused := true, changed := d.changed || !d.localRefused } 0 := by
  have hrefuse : (Work.eventAt s i d 0).refuseLocal i =
      Work.eventAt s i { d with localRefused := true, changed := d.changed || !d.localRefused } 0 := by
    unfold Work.refuseLocal
    rw [Work.eventAt_modify _ _ _ _ rfl, DoorRuntime.markChanged_eq]
    cases hl : d.localRefused <;> simp [DoorRuntime.indication, hl]
  rw [Work.localPress_open (by rw [Work.eventAt_door]; exact ht)]
  unfold Work.passageRequest Work.localOpen
  simp only [Work.eventAt_door, hs, hi, true_or, if_true, hrefuse, ite_self]

/-- R39, R43: at any other closed door the press raises its claim to open. -/
theorem Work.pressOpen_of_closed {s : State} {i : DoorIx} {d : DoorRuntime} (hs : d.state = .closed)
    (ht : d.takesLocal = true) (hi : d.inhibited = false) :
    (Work.eventAt s i d 0).localPress i .open =
      Work.raisedAt s i (d.askedOpen (decide (s.mode = .sea))) 0 := by
  have hcancel : (Work.eventAt s i d 0).cancel i = Work.eventAt s i d 0 :=
    Work.cancel_of_closed (by rw [Work.eventAt_door]; exact hs)
  have hmode : (Work.eventAt s i d 0).st.mode = s.mode := rfl
  rw [Work.localPress_open (by rw [Work.eventAt_door]; exact ht), hmode]
  unfold Work.passageRequest Work.localOpen
  simp only [Work.eventAt_door, hs, hi, true_or, if_true, Bool.false_eq_true, if_false, hcancel]
  by_cases hsea : s.mode = .sea
  · rw [if_pos hsea, Work.setPassage, Work.eventAt_modify _ _ _ _ rfl,
      Work.eventAt_queue _ (.inl (by rw [DoorRuntime.markChanged_state, hs]; decide))]
    simp only [DoorRuntime.markChanged_eq, DoorRuntime.askedOpen, hsea, decide_true, Bool.or_true]
  · rw [if_neg hsea, Work.eventAt_queue _ (.inl (by rw [hs]; decide))]
    simp only [DoorRuntime.askedOpen, hsea, decide_false, Bool.or_false]

/-! ## A press of CLOSE -/

/-- A door that stands, waits to reclose, opens or waits to open: a close order is news to it (R11). -/
abbrev DoorRuntime.NotClosing (d : DoorRuntime) : Prop :=
  d.state = .opened ∨ d.state = .stopped ∨ d.state = .recloseWait ∨ d.state = .opening
    ∨ (d.state = .queued ∧ d.queuedDir = .open)

/-- A door CLOSED or already closing (R11). -/
abbrev DoorRuntime.ClosedOrClosing (d : DoorRuntime) : Prop :=
  d.state = .closed ∨ d.state = .warning ∨ d.state = .closing ∨ (d.state = .queued ∧ d.queuedDir = .close)

theorem DoorRuntime.alreadyClosing_iff (d : DoorRuntime) : d.alreadyClosing = true ↔ d.ClosedOrClosing := by
  simp [DoorRuntime.alreadyClosing, or_assoc]

theorem DoorRuntime.NotClosing.spec {d : DoorRuntime} (h : d.NotClosing) :
    d.Known ∧ d.alreadyClosing = false ∧ d.state ≠ .closing := by
  rcases h with h | h | h | h | ⟨h, hd⟩ <;> simp [DoorRuntime.Known, DoorRuntime.alreadyClosing, *]

theorem DoorRuntime.ClosedOrClosing.spec {d : DoorRuntime} (h : d.ClosedOrClosing) :
    d.Known ∧ ¬ (d.state = .opened ∨ d.state = .stopped) := by
  rcases h with h | h | h | ⟨h, _⟩ <;> simp [DoorRuntime.Known, h]

/-- A close order finds neither a passage nor a hand pump nor an unknown state (R11). -/
theorem DoorRuntime.closeBarred_of_known {d : DoorRuntime} (hm : d.manual = false) (hp : d.passage = false)
    (hk : d.Known) : d.closeBarred = false := by
  simp [DoorRuntime.closeBarred, hm, hp, hk]

/-- R11: a door CLOSED or already closing only loses its sea-open held flag. -/
theorem Work.closeOrder_of_closing {s : State} {i : DoorIx} {d : DoorRuntime} (o : Origin) (preWarn : Bool)
    (hb : d.closeBarred = false) (hc : d.alreadyClosing = true) :
    (Work.eventAt s i d 0).closeOrder i o preWarn =
      Work.eventAt s i { d with seaOpenHeld := false, changed := d.changed || d.seaOpenHeld } 0 := by
  unfold Work.closeOrder
  rw [Work.eventAt_door, hb, hc, if_neg Bool.false_ne_true, if_pos rfl, Work.eventAt_modify _ _ _ _ rfl,
    DoorRuntime.markChanged_eq]
  cases hh : d.seaOpenHeld <;> simp [DoorRuntime.indication, hh]

/-- R9, R11: any other door gives back what it has and raises its claim to close at once. -/
theorem Work.closeOrder_of_open {s : State} {i : DoorIx} {d : DoorRuntime} (o : Origin)
    (hstate : d.state = s.doors[i].state) (hload : d.heldLoad = s.doors[i].heldLoad)
    (hb : d.closeBarred = false) (hc : d.alreadyClosing = false) :
    ∃ dirty, (Work.eventAt s i d 0).closeOrder i o false =
        Work.raisedAt (s.giveBack i) i
          { d.idled with
            state := .queued, queuedDir := .close, origin := o, seaOpenHeld := false, changed := true } dirty
      ∧ ∀ g, inGroups dirty g = true → s.Frees i g := by
  obtain ⟨dirty, hcancel, hfrees⟩ := Work.eventAt_cancel hstate hload
  refine ⟨dirty, ?_, hfrees⟩
  have hne : d.state ≠ .queued ∨ d.queuedDir ≠ .close := by
    by_contra hall
    obtain ⟨h1, h2⟩ := not_or.mp hall
    simp [DoorRuntime.alreadyClosing, not_not.mp h1, not_not.mp h2] at hc
  unfold Work.closeOrder Work.enterClosing
  simp only [Work.eventAt_door, hb, hc, Bool.false_eq_true, if_false, false_and, hcancel]
  rw [Work.eventAt_modify _ _ _ _ rfl, Work.eventAt_queue _
    (by rw [DoorRuntime.markChanged_state, DoorRuntime.markChanged_queuedDir]; exact hne), DoorRuntime.markChanged_eq]

/-! ## What a door frees -/

/-- A door whose load nobody waits for frees its own group's queue, or one that is empty. -/
theorem State.headStays_of_frees {s : State} {i : DoorIx} {g : GroupIx}
    (hwait : (s.doors[i]).Moves → s.NobodyWaitsFor s.doors[i]) (h : s.Frees i g) :
    g = s.tables.doors[i].group ∨ (s.giveBack i).headStays g := by
  rcases h with ⟨hm, units, hload⟩ | ⟨_, hgroup, _⟩
  · exact .inr (State.headStays_of_load hm (hwait hm) hload)
  · exact .inl hgroup

/-! ## The claims -/

section
variable {s : State} {i : DoorIx} {bytes : List Byte} {r : DoorReport}

/-- The closed limit keeps a closed door closed (R19). -/
theorem DoorRuntime.keptBy_of_closed {d : DoorRuntime} {r : DoorReport} (hs : d.state = .closed)
    (hc : r.closedLimit = true) : d.KeptBy r := by
  simp [DoorRuntime.KeptBy, hs, hc]

/-- A press of OPEN at a closed door that is inhibited (R52). -/
theorem exec_pressOpen_of_inhibited (h : s.Presses i bytes r .open) (hline : s.doorLines[i].ctl.line ≠ .lost)
    (hs : s.doors[i].state = .closed) (hi : s.doors[i].inhibited = true) :
    exec (.doorReportArrival i bytes) s =
      .next ((s.heard i r).setDoor i { s.doors[i] with
        sideA := r.sideA, sideB := r.sideB
        localRefused := true, changed := s.doors[i].changed || !s.doors[i].localRefused }) := by
  have htakes := h.only.takesLocal (Work.eventAt (s.heard i r) i (s.heardRecord i r) 0) (Work.eventAt_door _ _ _ _)
  rw [Work.eventAt_door] at htakes
  rw [exec_of_presses h, Work.pressOpen_of_inhibited (d := s.heardRecord i r) hs htakes hi, Work.finish_eventAt,
    State.heardRecord_of_line hline h.only.manual_eq]
  · exact State.recloses_of_moved (by rw [State.setDoor_doors]; simp only [State.heardRecord_state, hs]; decide)
  · exact fun g hg => absurd hg (inGroups_empty g)

/-- A press of OPEN at a closed door that is not inhibited (R39, R43, R59, R60). -/
theorem exec_pressOpen_of_closed (h : s.Presses i bytes r .open) (hline : s.doorLines[i].ctl.line ≠ .lost)
    (hs : s.doors[i].state = .closed) (hi : s.doors[i].inhibited = false)
    {g : GroupIx} (hg : s.tables.doors[i].group = g) {queue : List Claim}
    (hqueue : s.groups[g].queue ++ [{ door := i, dir := .open }] = queue)
    (hhead : ∀ c : Claim, queue.head? = some c → s.fits g c = false) :
    exec (.doorReportArrival i bytes) s =
      .next (((s.heard i r).setDoor i (DoorRuntime.askedOpen
        { s.doors[i] with sideA := r.sideA, sideB := r.sideB } (decide (s.mode = .sea)))).setGroup g
          { s.groups[g] with queue := queue }) := by
  have htakes := h.only.takesLocal (Work.eventAt (s.heard i r) i (s.heardRecord i r) 0) (Work.eventAt_door _ _ _ _)
  rw [Work.eventAt_door] at htakes
  rw [exec_of_presses h, Work.pressOpen_of_closed (d := s.heardRecord i r) hs htakes hi,
    Work.finish_raisedAt (s := s.heard i r) (d := DoorRuntime.askedOpen _ _) hg rfl hqueue hhead
      fun k hk => absurd hk (inGroups_empty k),
    State.heardRecord_of_line hline h.only.manual_eq]
  rfl

/-- A press of CLOSE at a door CLOSED or already closing (R11). -/
theorem exec_pressClose_of_closing (h : s.Presses i bytes r .close) (hline : s.doorLines[i].ctl.line ≠ .lost)
    (hpass : s.doors[i].passage = false) (hs : (s.doors[i]).ClosedOrClosing) :
    exec (.doorReportArrival i bytes) s =
      .next ((s.heard i r).setDoor i { s.doors[i] with
        sideA := r.sideA, sideB := r.sideB
        seaOpenHeld := false, changed := s.doors[i].changed || s.doors[i].seaOpenHeld }) := by
  have hbar := DoorRuntime.closeBarred_of_known (d := s.heardRecord i r) h.only.handPump hpass h.only.known
  have hclosing := (DoorRuntime.alreadyClosing_iff (s.heardRecord i r)).mpr hs
  rw [exec_of_presses h, Work.localPress_close (h.only.takesLocal _ (Work.eventAt_door _ _ _ _)),
    Work.closeOrder_of_closing _ _ hbar hclosing, Work.finish_eventAt,
    State.heardRecord_of_line hline h.only.manual_eq]
  · exact State.recloses_of_moved (by rw [State.setDoor_doors]; exact hs.spec.2)
  · exact fun g hg => absurd hg (inGroups_empty g)

/-- A press of CLOSE at a door that stands, waits to reclose, opens or waits to open (R9, R11, R59). -/
theorem exec_pressClose_of_open (h : s.Presses i bytes r .close) (hpass : s.doors[i].passage = false)
    (hs : (s.doors[i]).NotClosing) (hwait : s.doors[i].state = .opening → s.NobodyWaitsFor s.doors[i])
    {g : GroupIx} (hg : s.tables.doors[i].group = g) {queue : List Claim}
    (hqueue : joinQueue ((s.heard i r).giveBack i).groups[g].queue { door := i, dir := .close } = queue)
    (hhead : ∀ c : Claim, queue.head? = some c → ((s.heard i r).giveBack i).fits g c = false) :
    exec (.doorReportArrival i bytes) s =
      .next ((((s.heard i r).giveBack i).setDoor i
        { (s.doors[i]).ended r with
          state := .queued, queuedDir := .close, origin := .localCtl, seaOpenHeld := false }).setGroup g
        { ((s.heard i r).giveBack i).groups[g] with queue := queue }) := by
  obtain ⟨_, hopen, hnc⟩ := hs.spec
  have hmoves : ((s.heard i r).doors[i]).Moves → (s.heard i r).NobodyWaitsFor (s.heard i r).doors[i] :=
    fun hm => hwait (hm.resolve_left hnc)
  have hbar := DoorRuntime.closeBarred_of_known (d := s.heardRecord i r) h.only.handPump hpass h.only.known
  obtain ⟨dirty, hclose, hfrees⟩ :=
    Work.closeOrder_of_open (s := s.heard i r) (i := i) (d := s.heardRecord i r) .localCtl rfl rfl hbar hopen
  rw [exec_of_presses h, Work.localPress_close (h.only.takesLocal _ (Work.eventAt_door _ _ _ _)), hclose,
    Work.finish_raisedAt (g := g) (q := queue) (by rw [State.giveBack_tables]; exact hg) rfl hqueue hhead,
    ← State.heardRecord_ended h.only.manual_eq]
  intro k hk
  exact (State.headStays_of_frees hmoves (hfrees k hk)).imp_left fun hk' => hk'.trans hg

end

/-- R35: OPEN wins over CLOSE, and CLOSE over NONE. -/
theorem resolve_rows (a b : Level) :
    (resolve a b = .open ↔ a = .open ∨ b = .open)
      ∧ (resolve a b = .close ↔ a ≠ .open ∧ b ≠ .open ∧ (a = .close ∨ b = .close)) := by
  cases a <;> cases b <;> decide

/-- Settles O28: each press comes down to its row of the door machine. -/
theorem localOpenRequest : Obligations.LocalOpenRequest := by
  unfold Obligations.LocalOpenRequest
  intro s i bytes r d g queue heard opening freed closing joined hrec hline hman hpump hunit hold
  refine ⟨fun hs hc ho hnew => ?_, fun hk hl hpass hnew => ?_, resolve_rows⟩
  · have hpress : s.Presses i bytes r .open :=
      { receives := hrec, before := hold, now := hnew, pressed := by decide
        only :=
          { manual := hman, handPump := hpump, unitFault := hunit
            limits := by simp only [DoorReport.conflicting, ho, Bool.and_false]
            kept := DoorRuntime.keptBy_of_closed hs hc
            known := DoorRuntime.known_of_state hs (by decide) } }
    exact ⟨fun hi => exec_pressOpen_of_inhibited hpress hline hs hi,
      fun hi hhead => exec_pressOpen_of_closed hpress hline hs hi rfl rfl hhead⟩
  · have hlimits : r.conflicting = false := by
      rcases hl with hl | hl <;> simp [DoorReport.conflicting, hl]
    have hpress : d.Known → s.Presses i bytes r .close :=
      fun hknown =>
        { receives := hrec, before := hold, now := hnew, pressed := by decide
          only := ⟨hman, hpump, hunit, hlimits, hk, hknown⟩ }
    exact ⟨fun hs hwait hhead =>
        exec_pressClose_of_open (hpress (DoorRuntime.NotClosing.spec hs).1) hpass hs hwait rfl rfl hhead,
      fun hs => exec_pressClose_of_closing (hpress (DoorRuntime.ClosedOrClosing.spec hs).1) hline hpass hs⟩

end Sys2Proof.Machine
end

section
/-! A release: of a passage in SEA mode, and of a HOLD door's own local motion in WORKING mode (R8 to R10, R38, R41, R44, R46,
R61). -/

namespace Sys2Proof.Machine

open Sys2Proof

/-! ## A passage ends (R44, R46) -/

/-- A record put to wait for its reclose delay, no longer a passage (R30, R44). -/
def DoorRuntime.recloseAfter (d : DoorRuntime) (delay : Nat) : DoorRuntime :=
  { d with
    state := .recloseWait, timer := some delay, origin := .reclose, passage := false, changed := true }

/-- R44: away from the closed limit, with a delay above 0, an ended passage gives back its load and waits to reclose. -/
theorem Work.passageRelease_eq {s : State} {i : DoorIx} {d : DoorRuntime} {r : DoorReport}
    (hstate : d.state = s.doors[i].state) (hload : d.heldLoad = s.doors[i].heldLoad) (hpass : d.passage = true)
    (hwait : d.state ≠ .recloseWait) (hheld : s.doorLines[i].held = some r) (hclosed : r.closedLimit = false)
    (hdelay : 0 < s.recloseTime i) :
    ∃ dirty, (Work.eventAt s i d 0).passageRelease i =
        Work.eventAt (s.giveBack i) i (d.idled.recloseAfter (s.recloseTime i)) dirty
      ∧ ∀ g, inGroups dirty g = true → s.Frees i g := by
  obtain ⟨dirty, hcancel, hfrees⟩ := Work.eventAt_cancel hstate hload
  refine ⟨dirty, ?_, hfrees⟩
  have htime : ∀ e, ((s.giveBack i).setDoor i e).recloseTime i = s.recloseTime i := fun e => by
    unfold State.recloseTime State.setDoor; simp only [State.giveBack_tables]
  have hline : (Work.eventAt s i d 0).st.doorLines[i].held = some r := hheld
  have halone : r.closedAlone = false := by simp only [DoorReport.closedAlone, hclosed, Bool.false_and]
  have hidle : d.idled.state ≠ .recloseWait := hwait
  unfold Work.passageRelease
  rw [Work.eventAt_door, if_pos hpass, hcancel, Work.eventAt_modify _ _ _ _ rfl]
  simp only [hline, halone, Bool.false_eq_true, if_false]
  unfold Work.enterRecloseWait
  simp only [Work.eventAt_st, htime, Nat.ne_of_gt hdelay, if_false]
  rw [Work.modify_state _ _ _ (by rw [Work.eventAt_door, DoorRuntime.markChanged_state]; exact hidle.symm)
      (.inl fun k => rfl),
    Work.eventAt_door, Work.eventAt_withRecord, DoorRuntime.markChanged_eq]
  rfl

/-! ## A door put to rest by its report's limits (R8, R10) -/

theorem Work.dueReclose_twice (w : Work) (i : DoorIx) : (w.dueReclose i).dueReclose i = w.dueReclose i := by
  unfold Work.dueReclose
  rw [BitVec.or_assoc, BitVec.or_self]

theorem DoorReport.restState_eq_closed (r : DoorReport) : r.restState = .closed ↔ r.closedLimit = true := by
  unfold DoorReport.restState
  split_ifs with hc ho <;> simp [hc]

/-- A record that rests in `x` (R8, R32). -/
def DoorRuntime.restsIn (d : DoorRuntime) (x : DoorState) : DoorRuntime :=
  { d with state := x, seaOpenHeld := if x = .closed then false else d.seaOpenHeld, changed := true }

/-- R8: a door that no step awaits rests where its held report's limits show, and is due the sea reclose rule. -/
theorem Work.rest_eventAt {s : State} {i : DoorIx} {d : DoorRuntime} {dirty : GroupSet} {r : DoorReport}
    (hheld : s.doorLines[i].held = some r) (hconf : r.conflicting = false) (hun : s.Unawaited i)
    (hne : d.state ≠ r.restState) :
    ((Work.eventAt s i d dirty).rest i).dueReclose i =
      (Work.eventAt s i (d.restsIn r.restState) dirty).dueReclose i := by
  have hline : (Work.eventAt s i d dirty).st.doorLines[i].held = some r := hheld
  unfold Work.rest
  simp only [hline, hconf, Bool.false_eq_true, if_false]
  by_cases hc : r.closedLimit = true
  · have hrest : r.restState = .closed := r.restState_eq_closed.mpr hc
    rw [if_pos hc, Work.enterClosed, Work.modify_state _ _ _
      (by rw [Work.eventAt_door]; exact fun h => hne (h.symm.trans hrest.symm)) (.inr hun),
      Work.eventAt_door, Work.eventAt_withRecord, hrest]
    rfl
  · have hrest : r.restState ≠ .closed := fun h => hc (r.restState_eq_closed.mp h)
    rw [if_neg hc, Work.modify_state _ _ _ (by rw [Work.eventAt_door]; exact hne.symm) (.inr hun), Work.eventAt_door,
      Work.eventAt_withRecord, Work.dueReclose_twice, DoorRuntime.restsIn, if_neg hrest]

/-! ## A HOLD door's own motion withdrawn (R41) -/

/-- A door opens or waits to open. -/
abbrev DoorRuntime.Opens (d : DoorRuntime) : Prop := d.state = .opening ∨ (d.state = .queued ∧ d.queuedDir = .open)

/-- A door closes or waits to close. -/
abbrev DoorRuntime.Closes (d : DoorRuntime) : Prop := d.state = .closing ∨ (d.state = .queued ∧ d.queuedDir = .close)

/-- A door moves, or waits to move, in the direction of a level (R41). -/
abbrev DoorRuntime.Follows (d : DoorRuntime) (l : Level) : Prop := l = .open ∧ d.Opens ∨ l = .close ∧ d.Closes

theorem DoorRuntime.Follows.state {d : DoorRuntime} {l : Level} (h : d.Follows l) :
    d.state = .opening ∨ d.state = .closing ∨ d.state = .queued := by
  rcases h with ⟨_, h | h⟩ | ⟨_, h | h⟩ <;> simp [h]

theorem DoorRuntime.Follows.known {d : DoorRuntime} {l : Level} (h : d.Follows l) :
    d.Known := by
  rcases h.state with hs | hs | hs <;> exact DoorRuntime.known_of_state hs (by decide)

theorem DoorRuntime.known_of_working {d : DoorRuntime} (h : d.AtRest ∨ d.state = .warning ∨ d.Opens ∨ d.Closes) :
    d.Known := by
  rcases h with (h | h | h) | h | (h | ⟨h, _⟩) | (h | ⟨h, _⟩) <;>
    exact DoorRuntime.known_of_state h (by decide)

theorem DoorRuntime.Follows.ne_restState {d : DoorRuntime} {l : Level} (h : d.Follows l) (r : DoorReport) :
    d.state ≠ r.restState := by
  unfold DoorReport.restState
  rcases h.state with hs | hs | hs <;> rw [hs] <;> split_ifs <;> decide

/-- R41, with the direction of the level written out. -/
theorem Work.holdRelease_eq (w : Work) (i : DoorIx) (l : Level) :
    w.holdRelease i l =
      if w.st.tables.doors[i].localMode = .hold ∧ (w.door i).origin = .localCtl ∧ (w.door i).Follows l then w.withdraw i
      else w := by
  unfold Work.holdRelease
  cases l <;> simp [DoorRuntime.Follows]

/-- R10: a door that moves or waits to move is cancelled and put to rest. -/
theorem Work.withdraw_of_follows {w : Work} {i : DoorIx} {l : Level} (h : (w.door i).Follows l) :
    w.withdraw i = (w.cancel i).rest i := by
  unfold Work.withdraw
  rcases h.state with hs | hs | hs <;> rw [hs]

/-! ## The claims -/

section
variable {s : State} {i : DoorIx} {bytes : List Byte} {r : DoorReport} {l : Level}

/-- The release of a passage that stands open or opens (R44, R46). -/
theorem exec_release_of_passage (h : s.Releases i bytes r .open) (hsea : s.mode = .sea)
    (hpass : s.doors[i].passage = true) (hclosed : r.closedLimit = false)
    (hs : s.doors[i].state = .opened ∨ s.doors[i].state = .opening) (hdelay : 0 < s.recloseTime i)
    (hwait : s.doors[i].state = .opening → s.NobodyWaitsFor s.doors[i]) :
    exec (.doorReportArrival i bytes) s =
      .next (((s.heard i r).giveBack i).setDoor i (((s.doors[i]).ended r).recloseAfter (s.recloseTime i))) := by
  have hrest : s.doors[i].state ≠ .recloseWait ∧ s.doors[i].state ≠ .closing ∧ s.doors[i].state ≠ .queued := by
    generalize s.doors[i] = d at hs
    rcases hs with hs | hs <;> simp [hs]
  have hgain : (s.heard i r).NobodyGains i :=
    ⟨fun hm => hwait (hm.resolve_left hrest.2.1), fun hq => absurd hq hrest.2.2⟩
  obtain ⟨dirty, hrelease, hfrees⟩ := Work.passageRelease_eq (s := s.heard i r) (i := i) (d := s.heardRecord i r)
    rfl rfl hpass hrest.1 (s.heard_held i r) hclosed hdelay
  rw [exec_of_releases h, Work.localRelease_sea_open
    (w := Work.eventAt (s.heard i r) i (s.heardRecord i r) 0) (h.only.takesLocal _ (Work.eventAt_door _ _ _ _)) hsea,
    hrelease,
    Work.finish_eventAt, ← State.heardRecord_ended h.only.manual_eq]
  · rfl
  · exact State.recloses_of_moved (by rw [State.setDoor_doors]; simp [DoorRuntime.recloseAfter])
  · exact fun g hg => State.headStays_of_nobodyGains hgain (hfrees g hg)

/-- The release of a HOLD door whose local motion is in the released direction (R9, R10, R41, R61). -/
theorem exec_release_of_mine (h : s.Releases i bytes r l) (hmode : s.mode = .working)
    (hhold : s.tables.doors[i].localMode = .hold) (horigin : s.doors[i].origin = .localCtl)
    (hfollows : (s.doors[i]).Follows l) (hgain : s.NobodyGains i) (hun : s.Unawaited i) :
    exec (.doorReportArrival i bytes) s =
      .next (((s.heard i r).giveBack i).setDoor i ((s.doors[i]).restedAt r r.restState)) := by
  obtain ⟨dirty, hcancel, hfrees⟩ :=
    Work.eventAt_cancel (s := s.heard i r) (i := i) (d := s.heardRecord i r) rfl rfl
  have houtside := (s.heard i r).giveBack_outside i
  have hheld : ((s.heard i r).giveBack i).doorLines[i].held = some r :=
    (congrArg (fun u : State => u.doorLines[i].held) houtside).trans (s.heard_held i r)
  have hawaits : ((s.heard i r).giveBack i).Unawaited i := by
    unfold State.Unawaited State.NoStepRuns; rw [State.giveBack_plan]; exact hun
  have hdoor := Work.eventAt_door (s.heard i r) i (s.heardRecord i r) 0
  have hmine : (Work.eventAt (s.heard i r) i (s.heardRecord i r) 0).st.tables.doors[i].localMode = .hold
      ∧ ((Work.eventAt (s.heard i r) i (s.heardRecord i r) 0).door i).origin = .localCtl
      ∧ ((Work.eventAt (s.heard i r) i (s.heardRecord i r) 0).door i).Follows l := by
    rw [hdoor]; exact ⟨hhold, horigin, hfollows⟩
  rw [exec_of_releases h, Work.localRelease_working _ (h.only.takesLocal _ hdoor) hmode, Work.holdRelease_eq,
    if_pos hmine, Work.withdraw_of_follows hmine.2.2, hcancel,
    Work.rest_eventAt (d := (s.heardRecord i r).idled) hheld h.only.limits hawaits (hfollows.ne_restState r),
    Work.finish_eventAt,
    DoorRuntime.restedAt, ← State.heardRecord_ended h.only.manual_eq]
  · rfl
  · exact State.recloses_of_working ((congrArg State.mode houtside).trans hmode)
  · exact fun g hg => State.headStays_of_nobodyGains (s := s.heard i r) hgain (hfrees g hg)

/-- Any other release in WORKING mode (R38, R41). -/
theorem exec_release_of_other (h : s.Releases i bytes r l) (hmode : s.mode = .working)
    (hline : s.doorLines[i].ctl.line ≠ .lost)
    (hother : ¬ (s.tables.doors[i].localMode = .hold ∧ s.doors[i].origin = .localCtl ∧ (s.doors[i]).Follows l)) :
    exec (.doorReportArrival i bytes) s =
      .next ((s.heard i r).setDoor i { s.doors[i] with sideA := r.sideA, sideB := r.sideB }) := by
  have hdoor := Work.eventAt_door (s.heard i r) i (s.heardRecord i r) 0
  rw [exec_of_releases h, Work.localRelease_working _ (h.only.takesLocal _ hdoor) hmode, Work.holdRelease_eq,
    if_neg (by rw [hdoor]; exact hother), Work.finish_eventAt (s := s.heard i r) (State.recloses_of_working hmode),
    State.heardRecord_of_line hline h.only.manual_eq]
  exact fun g hg => absurd hg (inGroups_empty g)

end

/-- A moving or resting door that a report leaves at sea (R14, R19). -/
theorem DoorRuntime.keptBy_at_sea {d : DoorRuntime} {r : DoorReport} (hc : r.closedLimit = false)
    (hs : d.state = .opened ∧ r.openLimit = true ∨ d.state = .opening ∧ r.openLimit = false) : d.KeptBy r := by
  rcases hs with ⟨hs, ho⟩ | ⟨hs, ho⟩ <;> simp [DoorRuntime.KeptBy, hs, hc, ho]

/-- The record of an ended passage with the parts that only a moving door gives up written out. -/
theorem DoorRuntime.ended_recloseAfter {d : DoorRuntime} (r : DoorReport) (delay : Nat)
    (hs : d.state = .opened ∨ d.state = .opening) :
    (d.ended r).recloseAfter delay =
      { d with
        sideA := r.sideA, sideB := r.sideB
        state := .recloseWait, timer := some delay, origin := .reclose, passage := false
        deadline := if d.state = .opening then { d.deadline with running := false } else d.deadline
        travel := if d.state = .opening then { d.travel with running := false } else d.travel
        heldLoad := if d.state = .opening then none else d.heldLoad
        changed := true } := by
  rcases hs with hs | hs <;> simp [DoorRuntime.ended, DoorRuntime.recloseAfter, hs]

/-- An open or opening door gives back its load if it moves (R9). -/
theorem State.giveBack_at_sea {s : State} {i : DoorIx} (hs : s.doors[i].state = .opened ∨ s.doors[i].state = .opening) :
    s.giveBack i = if s.doors[i].state = .opening then s.unload s.doors[i] else s := by
  unfold State.giveBack
  rcases hs with hs | hs <;> simp only [hs] <;> rfl

/-- Settles O29: a release at sea ends the passage, one in WORKING mode withdraws the door's own HOLD motion, and no other
does anything. -/
theorem passageReleased : Obligations.PassageReleased := by
  unfold Obligations.PassageReleased
  intro s i bytes r d moving delay rest released opens closes mine hrec hman hpump hunit hold hnew
  refine ⟨fun hsea hpass hclosed hs hopen hdelay hwait => ?_, fun hmode hline hkept hl => ?_⟩
  · have hstate : d.state = .opened ∨ d.state = .opening := hs.imp And.left And.left
    have hrelease : s.Releases i bytes r .open :=
      { receives := hrec, before := hopen, now := hnew, pressed := by decide
        only :=
          { manual := hman, handPump := hpump, unitFault := hunit
            limits := by simp only [DoorReport.conflicting, hclosed, Bool.false_and]
            kept := DoorRuntime.keptBy_at_sea hclosed hs
            known := hstate.elim (DoorRuntime.known_of_state · (by decide)) (DoorRuntime.known_of_state · (by decide)) } }
    rw [exec_release_of_passage hrelease hsea hpass hclosed hstate hdelay hwait,
      State.giveBack_at_sea (s := s.heard i r) hstate, DoorRuntime.ended_recloseAfter r _ hstate]
    rfl
  · have hlimits : r.conflicting = false := by rcases hl with hl | hl <;> simp [DoorReport.conflicting, hl]
    have hrelease : d.Known → s.Releases i bytes r released :=
      fun hknown =>
        { receives := hrec, before := rfl, now := hnew, pressed := hold
          only := ⟨hman, hpump, hunit, hlimits, hkept, hknown⟩ }
    exact ⟨fun ⟨hhold, horigin, hfollows⟩ hgain hun =>
        exec_release_of_mine (hrelease (DoorRuntime.Follows.known hfollows)) hmode hhold horigin hfollows hgain hun,
      fun hother hstate =>
        exec_release_of_other (hrelease (DoorRuntime.known_of_working hstate)) hmode hline hother⟩

end Sys2Proof.Machine
end

section
/-! Which commands can change the fuse, the heel, the snapshot and the section mode: what the operations of an event keep of
`lasting`, and what each command carries over (R51, R74, R123, R172, R173). -/

namespace Sys2Proof.Machine

open Sys2Proof

/-! ## What only named commands change -/

/-- The pieces of state that only named commands change, with the model's own queue. -/
structure Lasting where
  pending : List Instr
  schemeFuse : Bool
  heldHeel : Int
  snapshot : Option Snapshot
  lastCycle : Nat
  mode : Mode

/-- See `Lasting`. -/
def State.lasting (s : State) : Lasting :=
  { pending := s.pending, schemeFuse := s.schemeFuse, heldHeel := s.heldHeel, snapshot := s.snapshot
    lastCycle := s.lastCycle, mode := s.mode }

/-- They lie outside the doors, the groups and the plan engine. -/
theorem State.lasting_of_outside {s t : State} (h : t.outside = s.outside) : t.lasting = s.lasting :=
  (congrArg State.lasting h :)

/-- A fold of operations that each keep them keeps them. -/
theorem State.foldl_lasting {α : Type} (f : State → α → State) (hf : ∀ s a, (f s a).lasting = s.lasting) (l : List α)
    (s : State) : (l.foldl f s).lasting = s.lasting :=
  List.foldlRecOn (motive := fun t => t.lasting = s.lasting) l f rfl fun _ ht a _ => (hf _ a).trans ht

/-! ## Answers -/

section
variable (s : State) (n : Slot) (t : OrderTag) (o : OrderOutcome)

@[simp] theorem State.placeResult_lasting (f : NodeFrame) : (s.placeResult f).lasting = s.lasting := by
  unfold State.placeResult; split <;> rfl
@[simp] theorem State.answer_lasting : (s.answer n t o).lasting = s.lasting := s.placeResult_lasting _
@[simp] theorem State.answerCheck_lasting (m : LaunchMode) (reason : CheckReason) (position : Option Nat) :
    (s.answerCheck n m reason position).lasting = s.lasting := s.placeResult_lasting _
@[simp] theorem State.answerSender_lasting (sender : Option Slot) :
    (s.answerSender sender t o).lasting = s.lasting := by
  unfold State.answerSender; split
  · simp
  · rfl

end

/-! ## Launches (R134, R195) -/

@[simp] theorem State.checkRequester_lasting (s : State) : s.checkRequester.lasting = s.lasting := by
  unfold State.checkRequester
  split
  · split
    · rfl
    · rw [State.answer_lasting]; rfl
  · rfl

@[simp] theorem State.checkHolder_lasting (s : State) : s.checkHolder.lasting = s.lasting := by
  unfold State.checkHolder
  split
  · split
    · rfl
    · split
      · rw [State.answer_lasting]; rfl
      · rfl
  · rfl

section
variable (w : Work)

@[simp] theorem Work.write_lasting (e : Entry) : (w.write e).st.lasting = w.st.lasting := rfl

@[simp] theorem Work.put_lasting (i : DoorIx) (d : DoorRuntime) : (w.put i d).st.lasting = w.st.lasting :=
  State.lasting_of_outside (w.put_outside i d)

@[simp] theorem State.setDoorLine_lasting (s : State) (i : DoorIx) (l : DoorLine) :
    (s.setDoorLine i l).lasting = s.lasting := rfl

theorem Work.removeDoor_lasting (i : DoorIx) (r : DoorRecord) : (w.removeDoor i r).st.lasting = w.st.lasting := by
  have hfreed : ((w.cancel i).release i).st.lasting = w.st.lasting := State.lasting_of_outside (by simp)
  unfold Work.removeDoor State.stopDoorLine
  simp only
  rw [State.setDoorLine_lasting, Work.put_lasting, Work.write_lasting, hfreed]

theorem Work.addDoor_lasting (i : DoorIx) (r : DoorRecord) : (w.addDoor i r).st.lasting = w.st.lasting := by
  unfold Work.addDoor State.startDoorLine
  simp only
  rw [State.setDoorLine_lasting, Work.put_lasting, Work.write_lasting]

theorem Work.rewriteDoor_lasting (i : DoorIx) (r : DoorRecord) : (w.rewriteDoor i r).st.lasting = w.st.lasting := by
  have hjoin : ((((w.unclaim i).write (.door i r)).join i r.group)).st.lasting = (w.unclaim i).st.lasting := rfl
  unfold Work.rewriteDoor
  simp only
  split
  · rw [hjoin]; exact State.lasting_of_outside (w.unclaim_outside i)
  · rfl

@[simp] theorem Work.applyDoor_lasting (i : DoorIx) (r : DoorRecord) : (w.applyDoor i r).st.lasting = w.st.lasting := by
  unfold Work.applyDoor
  simp only
  split
  · rfl
  · rw [Work.dueReclose_st]
    split
    · exact w.removeDoor_lasting i r
    · exact w.addDoor_lasting i r
    · exact w.rewriteDoor_lasting i r
    · rfl

@[simp] theorem Work.applyGroup_lasting (g : GroupIx) (r : GroupRecord) :
    (w.applyGroup g r).st.lasting = w.st.lasting := by
  unfold Work.applyGroup
  simp only
  split
  · rfl
  · split <;> rfl

@[simp] theorem Work.recomputeInhibit_lasting : w.recomputeInhibit.st.lasting = w.st.lasting :=
  State.lasting_of_outside w.recomputeInhibit_outside

@[simp] theorem Work.applySettings_lasting (r : Settings) : (w.applySettings r).st.lasting = w.st.lasting := by
  unfold Work.applySettings
  split
  · rw [Work.recomputeInhibit_lasting]; rfl
  · rfl

@[simp] theorem Work.applyEntry_lasting (e : Entry) : (w.applyEntry e).st.lasting = w.st.lasting := by
  unfold Work.applyEntry
  cases e <;> simp

/-- R195: a launch applied changes none of it. -/
@[simp] theorem Work.applyLaunch_lasting (result : Option (Slot × LaunchMode)) :
    (w.applyLaunch result).st.lasting = w.st.lasting := by
  have hwalk : (w.st.staging.foldl Work.applyEntry w).st.lasting = w.st.lasting :=
    Work.foldl_keeps (fun w => w.st.lasting) _ (fun w e => w.applyEntry_lasting e) _ w
  have hclear : (w.st.staging.foldl Work.applyEntry w).st.clearStaging.lasting = w.st.lasting := hwalk
  unfold Work.applyLaunch
  cases result with
  | none => simp only; split <;> simp [hclear]
  | some p => obtain ⟨n, m⟩ := p; simp only; split <;> simp [hclear]

@[simp] theorem Work.applyHeld_lasting : w.applyHeld.st.lasting = w.st.lasting := by
  unfold Work.applyHeld
  split
  · split
    · simp
    · rfl
  · rfl

@[simp] theorem Work.handEnd_lasting : w.handEnd.st.lasting = w.st.lasting := by
  unfold Work.handEnd
  split
  · exact Work.applyHeld_lasting { w with ended := false }
  · rfl

/-! ## The end of an event -/

@[simp] theorem Work.prepare_lasting : w.prepare.st.lasting = w.st.lasting := by
  have hjoin : w.prepare.st.lasting = (w.followUp 17).handEnd.st.lasting :=
    State.lasting_of_outside (by simp [Work.prepare])
  rw [hjoin, Work.handEnd_lasting]
  exact State.lasting_of_outside (by simp)

end

/-- Whatever an event still owes, paying it changes none of it. -/
theorem Work.drain_lasting : ∀ (n : Nat) (w : Work), (w.drain n).st.lasting = w.st.lasting
  | 0, w => State.lasting_of_outside w.joinAll_outside
  | n + 1, w => by
    unfold Work.drain
    split
    · rfl
    · rw [Work.drain_lasting n, State.lasting_of_outside (Work.examineNext_outside _), Work.prepare_lasting]

@[simp] theorem Work.finish_lasting (w : Work) : w.finish.lasting = w.st.lasting := w.drain_lasting drainRounds

/-- An event whose operations keep to the doors, the groups and the plan engine changes none of it. -/
theorem Work.finish_lasting_of_outside {w : Work} {s : State} (h : w.st.outside = s.outside) :
    w.finish.lasting = s.lasting := w.finish_lasting.trans (State.lasting_of_outside h)

end Sys2Proof.Machine
end

section
/-! What each command carries over of the queue, the fuse, the held heel, the snapshot, the last cycle number and the section
mode (R51, R74, R123, R172, R173). -/

namespace Sys2Proof.Machine

open Sys2Proof

/-! ## What a command carries over -/

/-- `t` follows `s` with the same queue and the fuse not cleared; with the same held heel, snapshot and last cycle number
unless `cycle`, and in the same mode unless `mode`. -/
structure State.Carries (cycle mode : Bool) (s t : State) : Prop where
  pending : t.pending = s.pending
  fuse : s.schemeFuse = true → t.schemeFuse = true
  cycle : cycle = false → t.heldHeel = s.heldHeel ∧ t.snapshot = s.snapshot ∧ t.lastCycle = s.lastCycle
  mode : mode = false → t.mode = s.mode

section
variable {cycle mode : Bool} {s t u : State}

theorem State.Carries.of_lasting (h : t.lasting = s.lasting) : State.Carries cycle mode s t where
  pending := congrArg Lasting.pending h
  fuse hf := (congrArg Lasting.schemeFuse h).trans hf
  cycle _ := ⟨congrArg Lasting.heldHeel h, congrArg Lasting.snapshot h, congrArg Lasting.lastCycle h⟩
  mode _ := congrArg Lasting.mode h

theorem State.Carries.refl : State.Carries cycle mode s s := .of_lasting rfl

theorem State.Carries.trans (h : State.Carries cycle mode s t) (h' : State.Carries cycle mode t u) :
    State.Carries cycle mode s u where
  pending := h'.pending.trans h.pending
  fuse hf := h'.fuse (h.fuse hf)
  cycle hc :=
    have ⟨hheel, hsnap, hlast⟩ := h.cycle hc
    have ⟨hheel', hsnap', hlast'⟩ := h'.cycle hc
    ⟨hheel'.trans hheel, hsnap'.trans hsnap, hlast'.trans hlast⟩
  mode hm := (h'.mode hm).trans (h.mode hm)

/-- What is carried over stays so when more may change. -/
theorem State.Carries.mono {cycle' mode' : Bool} (h : State.Carries cycle mode s t) (hc : cycle = true → cycle' = true)
    (hm : mode = true → mode' = true) : State.Carries cycle' mode' s t where
  pending := h.pending
  fuse := h.fuse
  cycle hc' := h.cycle (by cases cycle with | false => rfl | true => simp [hc rfl] at hc')
  mode hm' := h.mode (by cases mode with | false => rfl | true => simp [hm rfl] at hm')

/-- The end of an event carries everything over. -/
theorem State.Carries.finish {w : Work} (h : State.Carries cycle mode s w.st) : State.Carries cycle mode s w.finish :=
  h.trans (.of_lasting w.finish_lasting)

end

/-! ## The section mode's own operations (R123 to R126) -/

theorem Work.clearHeldOpen_outside (w : Work) : w.clearHeldOpen.st.outside = w.st.outside :=
  Work.foldl_keeps (fun w => w.st.outside) _ (fun w i => w.modify_outside i _) _ w

/-- Setting the mode changes the mode alone. -/
theorem Work.setMode_carries (w : Work) (m : Mode) : State.Carries false true w.st (w.setMode m).st where
  pending := rfl
  fuse hf := hf
  cycle _ := ⟨rfl, rfl, rfl⟩
  mode h := nomatch h

theorem Work.enterSea_carries (w : Work) : State.Carries false true w.st w.enterSea.st := by
  unfold Work.enterSea
  have hcleared : ((w.withdrawWhere DoorRuntime.isOpening).clearHeldOpen).st.outside = w.st.outside :=
    (Work.clearHeldOpen_outside _).trans (w.withdrawWhere_outside _)
  exact ((State.Carries.of_lasting (State.lasting_of_outside hcleared)).trans (Work.setMode_carries _ .sea)).trans
    (.of_lasting (State.lasting_of_outside (Work.rerun_outside _)))

theorem Work.enterWorking_carries (w : Work) : State.Carries false true w.st w.enterWorking.st := by
  unfold Work.enterWorking
  have haborted : (if w.st.plan.engine.inRun then w.abortRun else w).st.outside = w.st.outside := by
    split
    · exact w.abortRun_outside
    · rfl
  have hcleared := ((Work.clearHeldOpen_outside _).trans (Work.withdrawWhere_outside _ DoorRuntime.isReclosing)).trans
    haborted
  exact (State.Carries.of_lasting (State.lasting_of_outside hcleared)).trans (Work.setMode_carries _ .working)

theorem Work.isolationClose_carries (w : Work) : State.Carries false true w.st w.isolationClose.st := by
  unfold Work.isolationClose
  split
  · exact w.enterSea_carries
  · split
    · exact .refl
    · exact .of_lasting (State.lasting_of_outside w.rerun_outside)

/-! ## Supervision and the cycle start (R164 to R170, R193) -/

theorem Work.takeSupervisor_carries (w : Work) (l : LoopId) (p : Supervisor) :
    State.Carries false true w.st (w.takeSupervisor l p).st := by
  unfold Work.takeSupervisor
  simp only
  split
  · exact .of_lasting rfl
  · split
    · exact State.Carries.trans (t := (w.st.setSupervisor l p).monitor l (w.st.supervisor l).loop) (.of_lasting rfl)
        (Work.isolationClose_carries { w with st := _ })
    · exact .of_lasting rfl

theorem State.windowExpiry_carries (s : State) (l : LoopId) : State.Carries false true s (s.windowExpiry l) := by
  unfold State.windowExpiry
  simp only
  split
  · exact (Work.takeSupervisor_carries (Work.start s) l _).finish
  · exact .refl

/-- Heel and beat keep the queue and the fuse. -/
theorem State.takePace_carries (s : State) (heel : Word16) (a b : Bool) :
    State.Carries true true s (s.takePace heel a b) := by
  have hheel : State.Carries true true s (s.takeHeel heel) := ⟨rfl, id, (nomatch ·), (nomatch ·)⟩
  have hbeat : ∀ u : State, State.Carries true true u u.realignBeat := fun u => .of_lasting rfl
  unfold State.takePace
  cases a <;> cases b
  · exact .refl
  · exact hbeat s
  · exact hheel
  · exact hheel.trans (hbeat _)

theorem Work.takeCycleLaunch_lasting (w : Work) : w.takeCycleLaunch.st.lasting = w.st.lasting := by
  unfold Work.takeCycleLaunch
  split
  · split
    · rfl
    · split
      · rfl
      · split
        · exact State.answerCheck_lasting _ _ _ _ _
        · exact w.applyLaunch_lasting _
  · rfl

theorem State.report_carries (s : State) (cycle : Byte) (before : Ports) :
    State.Carries true true s (s.report cycle before) := ⟨rfl, id, (nomatch ·), (nomatch ·)⟩

theorem Work.accept_carries (w : Work) (cycle : Byte) (heel : Word16) (before : Ports) :
    State.Carries true true w.st (w.accept cycle heel before) := by
  have hpaced : State.Carries true true w.st
      (State.takePace { w.st with choices := w.st.choices + 1 } heel (!Config.launchBeforeHeel w.st.choices)
        (!Config.launchBeforeBeat w.st.choices)) :=
    State.Carries.trans (t := { w.st with choices := w.st.choices + 1 }) (.of_lasting rfl)
      (State.takePace_carries _ _ _ _)
  unfold Work.accept
  exact (((hpaced.trans (.of_lasting (Work.takeCycleLaunch_lasting { w with st := _ }))).finish).trans
    (State.takePace_carries _ _ _ _)).trans (State.report_carries _ _ _)

theorem State.cycleStart_carries (s : State) (l : LoopId) (src cycle : Byte) (heel : Word16) :
    State.Carries true true s (s.cycleStart l src cycle heel) := by
  have hsup : ∀ p, State.Carries true true s ((Work.start s).takeSupervisor l p).st := fun p =>
    (Work.takeSupervisor_carries (Work.start s) l p).mono (fun h => nomatch h) id
  unfold State.cycleStart
  split
  · simp only
    split
    · exact .refl
    · split
      · exact (hsup _).finish
      · split
        · exact (hsup _).trans (Work.accept_carries _ _ _ _)
        · exact (hsup _).finish
  · exact .refl

/-! ## Orders (R117, R118) -/

/-- An order without effect or refused carries everything over; else its owner decides. -/
theorem State.takeOrder_carries {cycle mode : Bool} (s : State) (src : Byte) (t : OrderTag) (need : Need)
    {owner : Slot → State} (h : ∀ n, State.Carries cycle mode s (owner n)) :
    State.Carries cycle mode s (s.takeOrder src t need owner) := by
  unfold State.takeOrder
  split
  · split
    · exact .refl
    · split
      · split
        · exact .of_lasting (State.answer_lasting _ _ _ _)
        · exact h _
      · exact .refl
  · exact .refl

/-- A form error is answered, and that is all. -/
theorem State.refuseForm_carries {cycle mode : Bool} (s : State) (src : Byte) (tag : OrderTag) :
    State.Carries cycle mode s (s.refuseForm src tag) :=
  s.takeOrder_carries src tag .enrolled fun n => .of_lasting (s.answer_lasting n tag .range)

/-! ### Door orders -/

theorem State.takeDoorOrder_carries (s : State) (src action door : Byte) (need : Need)
    {owner : Work → DoorIx → Work × OrderOutcome} (h : ∀ w i, (owner w i).1.st.lasting = w.st.lasting) :
    State.Carries false false s (s.takeDoorOrder src action door need owner) := by
  refine s.takeOrder_carries src _ need fun n => ?_
  split
  · exact .of_lasting (s.answer_lasting _ _ _)
  · refine State.Carries.finish (.of_lasting ?_)
    rw [Work.answer_st, State.answer_lasting]
    exact h (Work.start s) _

theorem Work.doorOrder_lasting (w : Work) (i : DoorIx) (a : DoorAction) : (w.doorOrder i a).1.st.lasting = w.st.lasting :=
  State.lasting_of_outside (w.doorOrder_outside i a)

theorem Work.inhibitOrder_lasting (w : Work) (i : DoorIx) (member : Bool) :
    (w.inhibitOrder i member).1.st.lasting = w.st.lasting := by
  unfold Work.inhibitOrder
  simp only
  generalize (if member = true then w.st.inhibitSet ||| doorBit i else w.st.inhibitSet &&& ~~~(doorBit i)) = set
  split
  · rfl
  · split
    · rfl
    · split
      · rfl
      · exact Work.recomputeInhibit_lasting { w with st := { w.st with inhibitSet := set } }

section
variable (s : State) (src door : Byte)

theorem State.orderClose_carries : State.Carries false false s (s.orderClose src door) :=
  s.takeDoorOrder_carries src _ door _ fun w i => w.doorOrder_lasting i .close
theorem State.orderOpen_carries : State.Carries false false s (s.orderOpen src door) :=
  s.takeDoorOrder_carries src _ door _ fun w i => w.doorOrder_lasting i .open
theorem State.orderStop_carries : State.Carries false false s (s.orderStop src door) :=
  s.takeDoorOrder_carries src _ door _ fun w i => w.doorOrder_lasting i .stop
theorem State.orderAck_carries : State.Carries false false s (s.orderAck src door) :=
  s.takeDoorOrder_carries src _ door _ fun w i => w.doorOrder_lasting i .ack
theorem State.orderInhibit_carries : State.Carries false false s (s.orderInhibit src door) :=
  s.takeDoorOrder_carries src _ door _ fun w i => w.inhibitOrder_lasting i true
theorem State.orderRelease_carries : State.Carries false false s (s.orderRelease src door) :=
  s.takeDoorOrder_carries src _ door _ fun w i => w.inhibitOrder_lasting i false

end

/-! ### Section orders -/

theorem State.takeSectionOrder_carries {cycle mode : Bool} (s : State) (src sub : Byte) (need : Need)
    {owner : Work → Work × OrderOutcome} (h : ∀ w, State.Carries cycle mode w.st (owner w).1.st) :
    State.Carries cycle mode s (s.takeSectionOrder src sub need owner) := by
  refine s.takeOrder_carries src _ need fun n => State.Carries.finish ?_
  exact (h (Work.start s)).trans (.of_lasting (State.answer_lasting _ _ _ _))

theorem Work.takeSea_carries (w : Work) : State.Carries false true w.st w.takeSea.1.st := by
  unfold Work.takeSea
  simp only
  split
  · exact .refl
  · exact w.enterSea_carries

theorem Work.takeWorking_carries (w : Work) : State.Carries false true w.st w.takeWorking.1.st := by
  unfold Work.takeWorking
  simp only
  split
  · exact .refl
  · exact w.enterWorking_carries

theorem Work.takeRerun_outside (w : Work) : w.takeRerun.1.st.outside = w.st.outside := by
  unfold Work.takeRerun; split_ifs <;> simp

theorem Work.takeSuspend_outside (w : Work) : w.takeSuspend.1.st.outside = w.st.outside := by
  unfold Work.takeSuspend; split <;> simp

theorem Work.takeResume_outside (w : Work) : w.takeResume.1.st.outside = w.st.outside := by
  unfold Work.takeResume; split <;> simp

theorem Work.takeSelect_lasting (w : Work) (bank : Byte) : (w.takeSelect bank).1.st.lasting = w.st.lasting := by
  unfold Work.takeSelect
  split
  · rfl
  · split <;> rfl

section
variable (s : State) (src : Byte)

theorem State.orderSea_carries : State.Carries false true s (s.orderSea src) :=
  s.takeSectionOrder_carries src _ _ Work.takeSea_carries
theorem State.orderWorking_carries : State.Carries false true s (s.orderWorking src) :=
  s.takeSectionOrder_carries src _ _ Work.takeWorking_carries
theorem State.orderRerun_carries : State.Carries false false s (s.orderRerun src) :=
  s.takeSectionOrder_carries src _ _ fun w => .of_lasting (State.lasting_of_outside w.takeRerun_outside)
theorem State.orderSuspend_carries : State.Carries false false s (s.orderSuspend src) :=
  s.takeSectionOrder_carries src _ _ fun w => .of_lasting (State.lasting_of_outside w.takeSuspend_outside)
theorem State.orderResume_carries : State.Carries false false s (s.orderResume src) :=
  s.takeSectionOrder_carries src _ _ fun w => .of_lasting (State.lasting_of_outside w.takeResume_outside)
theorem State.orderSelect_carries (bank : Byte) : State.Carries false false s (s.orderSelect src bank) :=
  s.takeSectionOrder_carries src _ _ fun w => .of_lasting (w.takeSelect_lasting bank)

end

/-! ### Authority orders -/

section
variable (s : State) (n : Slot)

/-- An answer after a change of holder or transfer. -/
theorem State.answer_of_authority (h : Option Slot) (q : Option Transfer) (tag : OrderTag) (o : OrderOutcome) :
    (State.answer { s with holder := h, transfer := q } n tag o).lasting = s.lasting := State.answer_lasting _ _ _ _

theorem State.request_lasting (tag : OrderTag) : (s.request n tag).lasting = s.lasting := by
  unfold State.request
  split
  · exact s.answer_of_authority n _ _ tag _
  · split
    · exact s.answer_lasting n tag _
    · split
      · exact s.answer_of_authority n _ _ tag _
      · split <;> exact s.answer_lasting n tag _

theorem State.requestForced_lasting : (s.requestForced n).lasting = s.lasting := by
  unfold State.requestForced
  simp only
  split
  · exact s.request_lasting n _
  · split
    · exact s.answer_of_authority n _ _ _ _
    · rw [State.answer_lasting]
      split
      · rfl
      · exact s.answer_of_authority _ _ _ _ _

theorem State.releaseAuthority_lasting : (s.releaseAuthority n).lasting = s.lasting := by
  unfold State.releaseAuthority
  split
  · split
    · rw [State.answer_lasting]; exact s.answer_of_authority n _ _ _ _
    · exact s.answer_of_authority n _ _ _ _
  · exact s.answer_lasting n _ _

theorem State.denyTransfer_lasting : (s.denyTransfer n).lasting = s.lasting := by
  unfold State.denyTransfer
  split
  · split
    · rw [State.answer_lasting]; exact s.answer_of_authority n _ _ _ _
    · exact s.answer_lasting n _ _
  · exact s.answer_lasting n _ _

end

section
variable (s : State) (src : Byte)

theorem State.orderRequest_carries : State.Carries false false s (s.orderRequest src) :=
  s.takeOrder_carries src _ _ fun n => .of_lasting (s.request_lasting n _)
theorem State.orderRequestForced_carries : State.Carries false false s (s.orderRequestForced src) :=
  s.takeOrder_carries src _ _ fun n => .of_lasting (s.requestForced_lasting n)
theorem State.orderAuthRelease_carries : State.Carries false false s (s.orderAuthRelease src) :=
  s.takeOrder_carries src _ _ fun n => .of_lasting (s.releaseAuthority_lasting n)
theorem State.orderAuthDeny_carries : State.Carries false false s (s.orderAuthDeny src) :=
  s.takeOrder_carries src _ _ fun n => .of_lasting (s.denyTransfer_lasting n)

end

/-! ### Table orders -/

section
variable (s : State) (n : Slot)

theorem State.stageWrite_lasting (t : TableId) (start count : Byte) (records : List Byte) :
    (s.stageWrite n t start count records).1.lasting = s.lasting := by
  unfold State.stageWrite
  simp only
  repeat' split
  all_goals rfl

theorem State.holdLaunch_lasting (m : LaunchMode) : (s.holdLaunch n m).lasting = s.lasting :=
  State.answer_lasting _ _ _ _

theorem State.takeLaunch_lasting (m : LaunchMode) : (s.takeLaunch n m).lasting = s.lasting := by
  have hnow : (((Work.start s).applyLaunch (some (n, .now))).finish).lasting = s.lasting := by
    rw [Work.finish_lasting, Work.applyLaunch_lasting]; rfl
  unfold State.takeLaunch
  simp only
  split
  · exact s.answer_lasting n _ _
  · split
    · exact s.answer_lasting n _ _
    · split
      · exact s.answer_lasting n _ _
      · cases m with
        | atCycle => exact s.holdLaunch_lasting n _
        | now =>
          simp only
          split
          · exact s.answerCheck_lasting n _ _ _
          · split
            · exact s.holdLaunch_lasting n _
            · exact hnow

theorem State.takeDiscard_lasting : (s.takeDiscard n).lasting = s.lasting := by
  unfold State.takeDiscard
  rw [State.answer_lasting]
  split <;> rfl

theorem State.readTable_lasting (tag : OrderTag) (t : TableId) (start count : Byte) :
    (s.readTable n tag t start count).lasting = s.lasting := by
  unfold State.readTable
  split
  · exact s.placeResult_lasting _
  · exact s.answer_lasting n tag _

end

section
variable (s : State) (src : Byte) (t : TableId) (start count : Byte)

theorem State.orderWrite_carries (records : List Byte) :
    State.Carries false false s (s.orderWrite src t start count records) := by
  unfold State.orderWrite
  split
  · exact s.takeOrder_carries src _ _ fun n =>
      .of_lasting ((State.answer_lasting _ _ _ _).trans (s.stageWrite_lasting n t start count records))
  · exact s.refuseForm_carries src _

theorem State.orderLaunchNow_carries : State.Carries false false s (s.orderLaunchNow src) :=
  s.takeOrder_carries src _ _ fun n => .of_lasting (s.takeLaunch_lasting n .now)
theorem State.orderLaunchAtCycle_carries : State.Carries false false s (s.orderLaunchAtCycle src) :=
  s.takeOrder_carries src _ _ fun n => .of_lasting (s.takeLaunch_lasting n .atCycle)
theorem State.orderDiscard_carries : State.Carries false false s (s.orderDiscard src) :=
  s.takeOrder_carries src _ _ fun n => .of_lasting (s.takeDiscard_lasting n)
theorem State.orderRead_carries : State.Carries false false s (s.orderRead src t start count) :=
  s.takeOrder_carries src _ _ fun n => .of_lasting (s.readTable_lasting n _ t start count)

end

/-! ### The store, the fuse and RESTART (R51, R199 to R203) -/

section
variable (s : State) (n : Slot)

theorem State.takeSave_lasting : (s.takeSave n).lasting = s.lasting := by
  unfold State.takeSave
  split
  · exact s.answer_lasting n _ _
  · rfl

theorem State.takeLoad_lasting : (s.takeLoad n).lasting = s.lasting := by
  unfold State.takeLoad
  split_ifs
  · exact s.answer_lasting n _ _
  · exact s.answer_lasting n _ _
  · exact s.answer_lasting n _ _
  · rfl

theorem State.takeRestart_lasting : (s.takeRestart n).lasting = s.lasting := by
  unfold State.takeRestart
  split
  · exact s.answer_lasting n _ _
  · exact s.answer_lasting n OrderTag.restart .done

theorem State.endSave_lasting (ok : Bool) : (s.endSave ok).lasting = s.lasting := State.answerSender_lasting _ _ _ _

theorem State.launchLoaded_lasting (es : List Entry) : (s.launchLoaded es n).lasting = s.lasting := by
  have hanswer : (State.answer { s with staging := es, stagingOwner := some n } n OrderTag.loadStore .done).lasting =
      s.lasting := State.answer_lasting _ _ _ _
  unfold State.launchLoaded
  simp only
  split
  · exact hanswer
  · rw [Work.finish_lasting, Work.applyLaunch_lasting]; exact hanswer

theorem State.endLoad_lasting (es : Option (List Entry)) : (s.endLoad es).lasting = s.lasting := by
  unfold State.endLoad
  split
  · exact State.launchLoaded_lasting s.storeIdle _ _
  · exact State.answerSender_lasting s.storeIdle _ _ _

/-- R51: FIX-SCHEME sets the fuse and changes nothing else of it. -/
theorem Work.fixScheme_carries (w : Work) : State.Carries false false w.st w.fixScheme.st := by
  unfold Work.fixScheme
  split
  · exact .refl
  · refine State.Carries.trans (t := { w.st with schemeFuse := true, inhibitSet := BitVec.allOnes 24 })
      ⟨rfl, fun _ => rfl, fun _ => ⟨rfl, rfl, rfl⟩, fun _ => rfl⟩ (.of_lasting ?_)
    exact Work.recomputeInhibit_lasting _

end

section
variable (s : State) (src : Byte)

theorem State.orderSave_carries : State.Carries false false s (s.orderSave src) :=
  s.takeOrder_carries src _ _ fun n => .of_lasting (s.takeSave_lasting n)
theorem State.orderLoadStore_carries : State.Carries false false s (s.orderLoadStore src) :=
  s.takeOrder_carries src _ _ fun n => .of_lasting (s.takeLoad_lasting n)
theorem State.orderFixScheme_carries : State.Carries false false s (s.orderFixScheme src) :=
  s.takeOrder_carries src _ _ fun _ => State.Carries.finish
    ((Work.fixScheme_carries (Work.start s)).trans (.of_lasting (State.answer_lasting _ _ _ _)))
theorem State.orderRestart_carries : State.Carries false false s (s.orderRestart src) :=
  s.takeOrder_carries src _ _ fun n => .of_lasting (s.takeRestart_lasting n)

end

end Sys2Proof.Machine
end

section
/-! What the commands of the lines, the timers, start-up and the loop ports carry over, and with them every command (R51, R74,
R123, R172, R173). -/

namespace Sys2Proof.Machine

open Sys2Proof

/-! ## Field lines (R139 to R150) -/

section
variable (s : State)

theorem State.sendPoll_lasting (line : LineId) : (s.sendPoll line).lasting = s.lasting := by
  unfold State.sendPoll
  cases line <;> simp only <;> split <;> rfl

theorem Work.markLine_outside (w : Work) (i : DoorIx) (old new : LineState) :
    (w.markLine i old new).st.outside = w.st.outside := by
  unfold Work.markLine; split <;> simp

theorem State.goodDoor_lasting (i : DoorIx) (r : DoorReport) : (s.goodDoor i r).lasting = s.lasting := by
  unfold State.goodDoor
  simp only
  split
  · exact Work.finish_lasting_of_outside (s := s.setDoorLine i (s.doorLines[i].good r))
      ((Work.takeReport_outside _ i r).trans (Work.markLine_outside _ i _ _))
  · rfl

theorem State.missDoor_lasting (i : DoorIx) : (s.missDoor i).lasting = s.lasting := by
  unfold State.missDoor
  simp only
  split
  · exact Work.finish_lasting_of_outside (s := s.setDoorLine i s.doorLines[i].miss)
      ((Work.loseLine_outside _ i).trans (Work.markLine_outside _ i _ _))
  · rfl

theorem State.doorReply_lasting (i : DoorIx) (bytes : List Byte) : (s.doorReply i bytes).lasting = s.lasting := by
  unfold State.doorReply
  split
  · rfl
  · split
    · exact s.goodDoor_lasting i _
    · exact s.missDoor_lasting i

theorem State.goodGroup_lasting (g : GroupIx) (r : GroupReport) : (s.goodGroup g r).lasting = s.lasting := by
  unfold State.goodGroup
  simp only
  split
  · exact Work.finish_lasting_of_outside (s := s.setGroupLine g (s.groupLines[g].good r))
      (Work.takeGroupReport_outside _ g r)
  · rfl

theorem State.missGroup_lasting (g : GroupIx) : (s.missGroup g).lasting = s.lasting := by
  unfold State.missGroup
  simp only
  split
  · split
    · rfl
    · rfl
    · exact Work.finish_lasting_of_outside (s := s.setGroupLine g s.groupLines[g].miss) (Work.setSupply_outside _ g _)
    · rfl
  · rfl

theorem State.groupReply_lasting (g : GroupIx) (bytes : List Byte) : (s.groupReply g bytes).lasting = s.lasting := by
  unfold State.groupReply
  split
  · rfl
  · split
    · exact s.goodGroup_lasting g _
    · exact s.missGroup_lasting g

theorem State.replyTimeout_lasting (line : LineId) : (s.replyTimeout line).lasting = s.lasting := by
  unfold State.replyTimeout
  cases line
  case door i =>
    simp only
    split
    · exact s.missDoor_lasting i
    · rfl
  case group g =>
    simp only
    split
    · exact s.missGroup_lasting g
    · rfl

/-! ## Timers (R7, R12, R15, R31, R78, R104, R133) -/

theorem Work.eachDue_outside (w : Work) (set : DoorSet) (p : DoorRuntime → Bool) (f : Work → DoorIx → Work)
    (hf : ∀ w i, (f w i).st.outside = w.st.outside) : (w.eachDue set p f).st.outside = w.st.outside :=
  Work.foldl_keeps (fun w => w.st.outside) f hf _ w

theorem State.warningExpiry_lasting (set : DoorSet) : (s.warningExpiry set).lasting = s.lasting :=
  Work.finish_lasting_of_outside
    (Work.eachDue_outside (Work.start s) set _ _ fun w i => by simp [Work.endWarning])

theorem State.recloseExpiry_lasting (set : DoorSet) : (s.recloseExpiry set).lasting = s.lasting :=
  Work.finish_lasting_of_outside
    (Work.eachDue_outside (Work.start s) set _ _ fun w i => by simp [Work.endReclose])

theorem State.deadlineExpiry_lasting (set : DoorSet) : (s.deadlineExpiry set).lasting = s.lasting :=
  Work.finish_lasting_of_outside
    (Work.eachDue_outside (Work.start s) set _ _ fun w i => w.deadlineEnd_outside i)

theorem State.beatExpiry_lasting : s.beatExpiry.lasting = s.lasting := by
  unfold State.beatExpiry; split <;> rfl

theorem State.compensationExpiry_lasting (g : GroupIx) : (s.compensationExpiry g).lasting = s.lasting := by
  unfold State.compensationExpiry; simp only; split <;> rfl

theorem State.stepExpiry_lasting : s.stepExpiry.lasting = s.lasting := by
  unfold State.stepExpiry
  split
  · exact Work.finish_lasting_of_outside (Work.overrun_outside (Work.start s))
  · rfl

theorem State.transferExpiry_lasting : s.transferExpiry.lasting = s.lasting := by
  unfold State.transferExpiry
  split
  · split
    · exact State.answer_lasting _ _ _ _
    · rfl
  · rfl

/-! ## Resets and start-up (R51, R123, R202, R203) -/

/-- A reset keeps the queue and the fuse. -/
theorem State.toReset_carries (cause : ResetCause) : State.Carries true true s (s.toReset cause) :=
  ⟨rfl, id, (nomatch ·), (nomatch ·)⟩

theorem State.beginStartUp_lasting (straps : BitVec 7) : (s.beginStartUp straps).lasting = s.lasting := rfl

theorem State.startLines_lasting : s.startLines.lasting = s.lasting := by
  unfold State.startLines
  refine (State.foldl_lasting _ (fun u g => ?_) _ _).trans (State.foldl_lasting _ (fun u i => ?_) _ _)
  all_goals split <;> rfl

/-- R123: the start-up load sets the mode and changes nothing else of it. -/
theorem State.placeTables_carries (es : Option (List Entry)) : State.Carries false true s (s.placeTables es) := by
  unfold State.placeTables
  refine State.Carries.trans ?_ (.of_lasting (State.startLines_lasting _))
  exact ⟨rfl, id, fun _ => ⟨rfl, rfl, rfl⟩, (nomatch ·)⟩

theorem Work.handDoor_outside (w : Work) (i : DoorIx) : (w.handDoor i).st.outside = w.st.outside := by
  unfold Work.handDoor
  split
  · rfl
  · split
    · exact w.takeReport_outside i _
    · rfl

theorem Work.handGroup_outside (w : Work) (g : GroupIx) : (w.handGroup g).st.outside = w.st.outside := by
  unfold Work.handGroup
  simp only
  repeat' split
  all_goals simp

theorem State.endStartUp_lasting : s.endStartUp.lasting = s.lasting := by
  unfold State.endStartUp
  split
  · have hstart : s.startTimers.lasting = s.lasting := rfl
    rw [← hstart]
    exact Work.finish_lasting_of_outside ((Work.foldl_keeps (fun w => w.st.outside) _ Work.handGroup_outside _ _).trans
      (Work.foldl_keeps (fun w => w.st.outside) _ Work.handDoor_outside _ (Work.start s.startTimers)))
  · rfl

/-! ## Frames (R154 to R159, R205) -/

/-- A frame may bring any order and a cycle start. -/
theorem State.Carries.any {cycle mode : Bool} {s t : State} (h : State.Carries cycle mode s t) :
    State.Carries true true s t := h.mono (fun _ => rfl) (fun _ => rfl)

/-- Of two ways to go on, each carries them over. -/
theorem State.Carries.either {cycle mode : Bool} {s t u : State} {p : Prop} [Decidable p]
    (h : State.Carries cycle mode s t) (h' : State.Carries cycle mode s u) :
    State.Carries cycle mode s (if p then t else u) := by
  split
  · exact h
  · exact h'

variable (src : Byte) (payload : List Byte)

theorem State.frameDoorOrder_carries : State.Carries true true s (s.frameDoorOrder src payload) := by
  unfold State.frameDoorOrder
  simp only
  split
  · refine .either ((s.orderClose_carries src _).any) ?_
    refine .either ((s.orderOpen_carries src _).any) ?_
    refine .either ((s.orderStop_carries src _).any) ?_
    refine .either ((s.orderAck_carries src _).any) ?_
    refine .either ((s.orderInhibit_carries src _).any) ?_
    refine .either ((s.orderRelease_carries src _).any) ?_
    exact s.refuseForm_carries src _
  · exact s.refuseForm_carries src _

theorem State.frameSectionOrder_carries : State.Carries true true s (s.frameSectionOrder src payload) := by
  unfold State.frameSectionOrder
  simp only
  split
  · refine .either ((s.orderSea_carries src).any) ?_
    refine .either ((s.orderWorking_carries src).any) ?_
    refine .either ((s.orderRerun_carries src).any) ?_
    refine .either ((s.orderSuspend_carries src).any) ?_
    refine .either ((s.orderResume_carries src).any) ?_
    refine .either ((s.orderSelect_carries src _).any) ?_
    exact s.refuseForm_carries src _
  · exact s.refuseForm_carries src _

theorem State.frameRequest_carries : State.Carries true true s (s.frameRequest src payload) := by
  unfold State.frameRequest
  simp only
  split
  · refine .either ((s.orderRequest_carries src).any) ?_
    refine .either ((s.orderRequestForced_carries src).any) ?_
    exact s.refuseForm_carries src _
  · exact s.refuseForm_carries src _

theorem State.frameWrite_carries : State.Carries true true s (s.frameWrite src payload) := by
  unfold State.frameWrite
  split
  · split
    · exact (s.orderWrite_carries src _ _ _ _).any
    · exact s.refuseForm_carries src _
  · exact s.refuseForm_carries src _

theorem State.frameLaunch_carries : State.Carries true true s (s.frameLaunch src payload) := by
  unfold State.frameLaunch
  simp only
  split
  · refine .either ((s.orderLaunchNow_carries src).any) ?_
    refine .either ((s.orderLaunchAtCycle_carries src).any) ?_
    exact s.refuseForm_carries src _
  · exact s.refuseForm_carries src _

theorem State.frameRead_carries : State.Carries true true s (s.frameRead src payload) := by
  unfold State.frameRead
  split
  · split
    · exact (s.orderRead_carries src _ _ _).any
    · exact s.refuseForm_carries src _
  · exact s.refuseForm_carries src _

theorem State.frameManage_carries : State.Carries true true s (s.frameManage src payload) := by
  unfold State.frameManage
  simp only
  split
  · refine .either ((s.orderSave_carries src).any) ?_
    refine .either ((s.orderLoadStore_carries src).any) ?_
    refine .either ((s.orderFixScheme_carries src).any) ?_
    refine .either ((s.orderRestart_carries src).any) ?_
    exact s.refuseForm_carries src _
  · exact s.refuseForm_carries src _

theorem State.actOnOrder_carries (f : LoopFrame) : State.Carries true true s (s.actOnOrder f) := by
  unfold State.actOnOrder
  refine .either (s.frameDoorOrder_carries _ _) ?_
  refine .either (s.frameSectionOrder_carries _ _) ?_
  refine .either (s.frameRequest_carries _ _) ?_
  refine .either (.either (s.orderAuthRelease_carries _).any (s.refuseForm_carries _ _)) ?_
  refine .either (.either (s.orderAuthDeny_carries _).any (s.refuseForm_carries _ _)) ?_
  refine .either (s.frameWrite_carries _ _) ?_
  refine .either (s.frameLaunch_carries _ _) ?_
  refine .either (.either (s.orderDiscard_carries _).any (s.refuseForm_carries _ _)) ?_
  refine .either (s.frameRead_carries _ _) ?_
  exact .either (s.frameManage_carries _ _) .refl

theorem State.takeIn_carries (l : LoopId) (f : LoopFrame) : State.Carries true true s (s.takeIn l f) := by
  unfold State.takeIn
  split
  · split
    · split
      · exact s.cycleStart_carries l _ _ _
      · exact .refl
    · split
      · exact s.actOnOrder_carries f
      · exact .refl
  · exact .refl

theorem State.forward_lasting (l : LoopId) (bytes : List Byte) : (s.forward l bytes).lasting = s.lasting := rfl

theorem State.takeBroadcast_carries (l : LoopId) (bytes : List Byte) (f : LoopFrame) :
    State.Carries true true s (s.takeBroadcast l bytes f) := by
  have hcount : State.Carries true true s { s with choices := s.choices + 1 } := .of_lasting rfl
  unfold State.takeBroadcast
  simp only
  split
  · exact (hcount.trans (State.takeIn_carries _ l f)).trans (.of_lasting (State.forward_lasting _ l bytes))
  · exact (hcount.trans (.of_lasting (State.forward_lasting _ l bytes))).trans (State.takeIn_carries _ l f)

theorem State.arrive_carries (l : LoopId) (bytes : List Byte) : State.Carries true true s (s.arrive l bytes) := by
  unfold State.arrive
  split
  · exact .refl
  · split
    · exact .of_lasting rfl
    · unfold State.takeGood
      split
      · exact .of_lasting rfl
      · split_ifs
        · exact .refl
        · exact s.takeIn_carries l _
        · exact s.takeBroadcast_carries l bytes _
        · exact .of_lasting rfl

end

/-! ## Every command -/

/-- Whether a command may change the held heel, the snapshot and the last cycle number (R74, R172, R173). -/
def mayCycle (c : Instr) : Bool := resets c || bringsCycleStart c

/-- Whether a command may change the section mode (R123): a reset, a cycle start or a frame, a window's end, SET-MODE and a
start-up load. -/
def maySetMode : Instr → Bool
  | .windowExpiry _ => true
  | .setModeSea _ => true
  | .setModeWorking _ => true
  | .startupLoadComplete _ => true
  | .startupLoadTimeout => true
  | c => mayCycle c

/-- What every command carries over. -/
theorem exec_carries (c : Instr) (s t : State) (h : exec c s = .next t) :
    State.Carries (mayCycle c) (maySetMode c) s t := by
  cases c <;> cases h
  case powerUp straps => exact (s.toReset_carries .power).trans (.of_lasting (State.beginStartUp_lasting _ straps))
  case resetLineAssert => exact s.toReset_carries .line
  case resetLineRelease straps => exact .either (.of_lasting (s.beginStartUp_lasting straps)) .refl
  case startupLoadComplete image => exact .either (s.placeTables_carries _) .refl
  case startupLoadTimeout => exact .either (s.placeTables_carries _) .refl
  case startUpEnd => exact .of_lasting s.endStartUp_lasting
  case loopFrameArrival l bytes => exact s.arrive_carries l bytes
  case cycleStart l src cycle heel => exact s.cycleStart_carries l src cycle heel
  case windowExpiry l => exact s.windowExpiry_carries l
  case transmitEnd l => exact .of_lasting rfl
  case linePoll line => exact .of_lasting (s.sendPoll_lasting line)
  case doorReportArrival i bytes => exact .of_lasting (s.doorReply_lasting i bytes)
  case groupReportArrival g bytes => exact .of_lasting (s.groupReply_lasting g bytes)
  case lineReplyTimeout line => exact .of_lasting (s.replyTimeout_lasting line)
  case warningExpiry doors => exact .of_lasting (s.warningExpiry_lasting doors)
  case recloseExpiry doors => exact .of_lasting (s.recloseExpiry_lasting doors)
  case deadlineExpiry doors => exact .of_lasting (s.deadlineExpiry_lasting doors)
  case beatTimerExpiry => exact .of_lasting s.beatExpiry_lasting
  case compensationExpiry g => exact .of_lasting (s.compensationExpiry_lasting g)
  case stepTimerExpiry => exact .of_lasting s.stepExpiry_lasting
  case transferTimerExpiry => exact .of_lasting s.transferExpiry_lasting
  case saveComplete report => exact .either (.of_lasting (s.endSave_lasting _)) .refl
  case saveTimeout => exact .either (.of_lasting (s.endSave_lasting _)) .refl
  case loadStoreComplete image => exact .either (.of_lasting (s.endLoad_lasting _)) .refl
  case loadStoreTimeout => exact .either (.of_lasting (s.endLoad_lasting _)) .refl
  case restartReset straps =>
    exact .either ((s.toReset_carries .order).trans (.of_lasting (State.beginStartUp_lasting _ straps))) .refl
  case doorOrderClose src door => exact s.orderClose_carries src door
  case doorOrderOpen src door => exact s.orderOpen_carries src door
  case doorOrderStop src door => exact s.orderStop_carries src door
  case doorOrderAck src door => exact s.orderAck_carries src door
  case doorOrderInhibit src door => exact s.orderInhibit_carries src door
  case doorOrderRelease src door => exact s.orderRelease_carries src door
  case setModeSea src => exact s.orderSea_carries src
  case setModeWorking src => exact s.orderWorking_carries src
  case rerun src => exact s.orderRerun_carries src
  case suspend src => exact s.orderSuspend_carries src
  case resume src => exact s.orderResume_carries src
  case selectPlan src bank => exact s.orderSelect_carries src bank
  case authRequest src => exact s.orderRequest_carries src
  case authRequestForced src => exact s.orderRequestForced_carries src
  case authRelease src => exact s.orderAuthRelease_carries src
  case authDeny src => exact s.orderAuthDeny_carries src
  case tableWrite src table start count records => exact s.orderWrite_carries src table start count records
  case launchNow src => exact s.orderLaunchNow_carries src
  case launchAtCycle src => exact s.orderLaunchAtCycle_carries src
  case discard src => exact s.orderDiscard_carries src
  case tableRead src table start count => exact s.orderRead_carries src table start count
  case save src => exact s.orderSave_carries src
  case loadStore src => exact s.orderLoadStore_carries src
  case fixScheme src => exact s.orderFixScheme_carries src
  case restart src => exact s.orderRestart_carries src

/-- A command that the claim does not name sets no mode. -/
theorem maySetMode_eq_false {c : Instr} (hreset : resets c = false) (hcycle : bringsCycleStart c = false)
    (hwindow : ∀ l : LoopId, c ≠ .windowExpiry l)
    (hmode : ∀ src : Byte, c ≠ .setModeSea src ∧ c ≠ .setModeWorking src)
    (hload : ∀ image : List Byte, c ≠ .startupLoadComplete image) (htimeout : c ≠ .startupLoadTimeout) :
    maySetMode c = false := by
  unfold maySetMode
  split
  case h_1 l => exact absurd rfl (hwindow l)
  case h_2 src => exact absurd rfl (hmode src).1
  case h_3 src => exact absurd rfl (hmode src).2
  case h_4 image => exact absurd rfl (hload image)
  case h_5 => exact absurd rfl htimeout
  case h_6 => rw [mayCycle, hreset, hcycle]; rfl

/-- Settles O57: each part of what every command carries over. -/
theorem onlyNamedCommandsChange : Obligations.OnlyNamedCommandsChange := by
  unfold Obligations.OnlyNamedCommandsChange
  intro c s t h
  have hcarries := exec_carries c s t h
  refine ⟨hcarries.pending, hcarries.fuse, fun hreset hcycle => hcarries.cycle ?_,
    fun hreset hcycle hwindow hmode hload htimeout => hcarries.mode ?_⟩
  · rw [mayCycle, hreset, hcycle]; rfl
  · exact maySetMode_eq_false hreset hcycle hwindow hmode hload htimeout

end Sys2Proof.Machine
end

section
/-! The timers of the section at their ends: the lamp beat, the compensation periods with Tf, and the transfer timer (R7,
R78, R79, R133). -/

namespace Sys2Proof.Machine

open Sys2Proof

/-! ## Tf by the cases of R79 -/

/-- With no held temperature the time is the nominal one (R79). -/
@[simp] theorem temperatureFactor_none (tRef coefficient : Nat) : temperatureFactor none tRef coefficient = 256 := rfl

/-- The clamp of R79: the raw factor of the cold difference, at most 1023. -/
theorem temperatureFactor_of_diff {t : Int} {tRef cold : Nat} (coefficient : Nat) (hcold : ((tRef : Int) - t).toNat = cold) :
    temperatureFactor (some t) tRef coefficient = min 1023 (256 + coefficient * cold * cold / 256) := by
  subst hcold; rfl

/-- Oil at or above the reference has cold difference 0, which leaves the time unstretched (R79). -/
theorem temperatureFactor_of_warm {t : Int} {tRef : Nat} (coefficient : Nat) (hwarm : (tRef : Int) ≤ t) :
    temperatureFactor (some t) tRef coefficient = 256 := by
  rw [temperatureFactor_of_diff coefficient (cold := 0) (by omega)]; simp

/-- A number that meets R79's conditions, one for each situation of the held temperature, is the model's Tf. -/
theorem eq_temperatureFactor {held : Option Int} {tRef coefficient tf : Nat} (hnone : held = none → tf = 256)
    (hsome : ∀ t : Int, held = some t → ((tRef : Int) ≤ t → tf = 256)
      ∧ (∀ cold : Nat, (tRef : Int) - t = cold → 0 < cold → tf = min 1023 (256 + coefficient * cold * cold / 256))) :
    tf = temperatureFactor held tRef coefficient := by
  cases held with
  | none => rw [hnone rfl, temperatureFactor_none]
  | some t =>
    obtain ⟨hwarm, hcold⟩ := hsome t rfl
    rcases le_or_gt (tRef : Int) t with hle | hlt
    · rw [hwarm hle, temperatureFactor_of_warm coefficient hle]
    · rw [temperatureFactor_of_diff coefficient rfl]
      exact hcold _ (by omega) (by omega)

/-! ## The three expiries where they are due -/

section
variable {s : State}

/-- R7: the beat toggles and restarts from the settings. -/
theorem exec_beatTimerExpiry_of_due (hdue : s.beatTimer = some 0) :
    exec .beatTimerExpiry s = .next { s with beatOn := !s.beatOn, beatTimer := some s.tables.settings.beatHalf } :=
  congrArg Host.Outcome.next (if_pos hdue)

/-- R78: Tf is recomputed from the held temperature and the live record, and the period restarts; nothing else changes. -/
theorem exec_compensationExpiry_of_due {g : GroupIx} (hdue : s.groups[g].period = some 0) :
    exec (.compensationExpiry g) s = .next (s.setGroup g { s.groups[g] with
      tf := temperatureFactor s.groups[g].heldTemp s.tables.groups[g].tRef s.tables.groups[g].coefficient
      period := some 100 }) :=
  congrArg Host.Outcome.next (if_pos hdue)

/-- R133: the transfer clears, and its requester is answered TIMEOUT. -/
theorem exec_transferTimerExpiry_of_due {n : Slot} (hdue : s.transfer = some { requester := n, timer := 0 }) :
    exec .transferTimerExpiry s =
      .next (State.answer { s with transfer := none } n (OrderTag.authRequest false) .timeout) := by
  change Host.Outcome.next s.transferExpiry = _
  simp only [State.transferExpiry, hdue, if_pos]

end

/-- Settles O34: each timer by its expiry where it is due; the number the statement gives for Tf is the model's by R79. -/
theorem sectionTimersEnd : Obligations.SectionTimersEnd := by
  unfold Obligations.SectionTimersEnd
  intro s
  refine ⟨exec_beatTimerExpiry_of_due, fun g tf hdue hnone hsome => ?_, fun n => exec_transferTimerExpiry_of_due⟩
  rw [eq_temperatureFactor hnone hsome]
  exact exec_compensationExpiry_of_due hdue

end Sys2Proof.Machine
end

section
/-! Replies on a door line: late ones, misses, the reports of start-up, and which replies are good reports (R141, R142, R145,
R150, R207). -/

namespace Sys2Proof.Machine

open Sys2Proof

/-! ## Bytes before their CRC (R1) -/

@[simp] theorem withCrc_length (body : List Byte) : (withCrc body).length = body.length + 2 := List.length_append

/-- The check finds a body exactly in that body followed by its CRC. -/
theorem checkCrc_eq_some_iff {bytes body : List Byte} : checkCrc bytes = some body ↔ bytes = withCrc body := by
  constructor
  · intro h
    unfold checkCrc at h
    obtain ⟨⟨-, hbytes⟩, hbody⟩ := Option.ite_none_right_eq_some.mp h
    rw [← Option.some.inj hbody]
    exact hbytes.symm
  · rintro rfl
    have htake : (withCrc body).take body.length = body := List.take_left
    simp [checkCrc, htake]

@[simp] theorem checkCrc_withCrc (body : List Byte) : checkCrc (withCrc body) = some body := checkCrc_eq_some_iff.mpr rfl

/-! ## The codes of a door REPORT (R207) -/

@[simp] theorem levelOfCode_three : levelOfCode 3 = none := rfl

/-- Code 3 alone of a two-bit field names no level. -/
theorem levelOfCode_of_ne_three {code : Nat} (hlt : code < 4) (hne : code ≠ 3) :
    levelOfCode code = some (if code = 1 then .open else if code = 2 then .close else .none) := by
  have hcases : code = 0 ∨ code = 1 ∨ code = 2 := by omega
  rcases hcases with rfl | rfl | rfl <;> rfl

theorem unitFaultOfCode_of_four_le {code : Nat} (h : 4 ≤ code) : unitFaultOfCode code = none := by
  have hne : code ≠ 0 ∧ code ≠ 1 ∧ code ≠ 2 ∧ code ≠ 3 := by omega
  obtain ⟨h0, h1, h2, h3⟩ := hne
  simp only [unitFaultOfCode, h0, h1, h2, h3, if_false]

theorem unitFaultOfCode_of_lt_four {b : Byte} (h : b.toNat < 4) :
    unitFaultOfCode b.toNat = some (if b = 1#8 then .valve else if b = 2#8 then .supply
      else if b = 3#8 then .sensor else .none) := by
  have hcases : b = 0#8 ∨ b = 1#8 ∨ b = 2#8 ∨ b = 3#8 := by bv_omega
  rcases hcases with rfl | rfl | rfl | rfl <;> rfl

/-! ## Good replies and damaged ones (R141, R207) -/

/-- A reply of another length or with a bad CRC is damaged. -/
theorem doorReportOfBytes_of_shape {bytes : List Byte} (h : ∀ b0 b1 : Byte, bytes ≠ withCrc [b0, b1]) :
    doorReportOfBytes bytes = none := by
  unfold doorReportOfBytes
  split
  · next b0 b1 hcrc => exact absurd (checkCrc_eq_some_iff.mp hcrc) (h b0 b1)
  · rfl

section
variable {b0 b1 : Byte}

theorem doorReportOfBytes_of_assigned {a b : Level} {f : UnitFault} (ha : levelOfCode (field b0 3 2) = some a)
    (hb : levelOfCode (field b0 1 2) = some b) (hf : unitFaultOfCode b1.toNat = some f) :
    doorReportOfBytes (withCrc [b0, b1]) = some
      { closedLimit := bit b0 7, openLimit := bit b0 6, sideA := a, sideB := b, handPump := bit b0 5, unitFault := f } := by
  simp only [doorReportOfBytes, checkCrc_withCrc, ha, hb, hf]

/-- An unassigned code in any of the three coded fields damages the reply. -/
theorem doorReportOfBytes_of_unassigned (h : levelOfCode (field b0 3 2) = none ∨ levelOfCode (field b0 1 2) = none
    ∨ unitFaultOfCode b1.toNat = none) : doorReportOfBytes (withCrc [b0, b1]) = none := by
  simp only [doorReportOfBytes, checkCrc_withCrc]
  split
  · next ha hb hf => simp [ha, hb, hf] at h
  · rfl

end

/-! ## The door line after a miss (R142, R146) -/

theorem LineState.afterMiss_eq (l : LineState) :
    l.afterMiss = if l = .good then .missed1 else if l = .missed1 then .missed2 else .lost := by
  cases l <;> rfl

/-- A miss leads to LOST from every line state but GOOD and MISSED(1). -/
theorem LineState.afterMiss_eq_lost_iff (l : LineState) : l.afterMiss = .lost ↔ ¬ (l = .good ∨ l = .missed1) := by
  cases l <;> decide

theorem DoorLine.miss_eq (x : DoorLine) :
    x.miss =
      { ctl := { x.ctl with
          replyWait := none, settled := true
          line := if x.ctl.line = .good then .missed1 else if x.ctl.line = .missed1 then .missed2 else .lost }
        held := if x.ctl.line = .good ∨ x.ctl.line = .missed1 then x.held else none } := by
  unfold DoorLine.miss LineControl.endWait
  simp only [LineState.afterMiss_eq_lost_iff, ite_not]
  rw [LineState.afterMiss_eq]

section
variable {s : State} {i : DoorIx} {bytes : List Byte}

/-- A miss that is not the third outside start-up moves the line alone (R145, R150). -/
theorem State.missDoor_of_not_handed (h : s.handsOn = false ∨ s.doorLines[i].ctl.line ≠ .missed2) :
    s.missDoor i = s.setDoorLine i s.doorLines[i].miss := by
  have hnot : ¬ (s.handsOn && decide (s.doorLines[i].ctl.line = .missed2)) = true := by
    rcases h with hstart | hline
    · simp [hstart]
    · rw [decide_eq_false hline, Bool.and_false]
      exact Bool.false_ne_true
  exact if_neg hnot

/-- A good report of start-up is held and goes no further (R150). -/
theorem State.goodDoor_of_startUp (r : DoorReport) (h : s.handsOn = false) : s.goodDoor i r = s.heard i r := by
  unfold State.goodDoor
  rw [h]
  rfl

/-! ## The commands -/

/-- R141: a late reply is ignored. -/
theorem exec_doorReportArrival_of_late (h : s.doorLines[i].ctl.replyWait = none) (bytes : List Byte) :
    exec (.doorReportArrival i bytes) s = .next s := by
  change Host.Outcome.next (s.doorReply i bytes) = _
  simp only [State.doorReply, h]

theorem exec_doorReportArrival_of_good {r : DoorReport} (hwait : s.doorLines[i].ctl.replyWait ≠ none)
    (hgood : doorReportOfBytes bytes = some r) : exec (.doorReportArrival i bytes) s = .next (s.goodDoor i r) := by
  obtain ⟨poll, hpoll⟩ := Option.ne_none_iff_exists'.mp hwait
  change Host.Outcome.next (s.doorReply i bytes) = _
  simp only [State.doorReply, hpoll, hgood]

/-- R142: a damaged reply is a miss. -/
theorem exec_doorReportArrival_of_damaged (hwait : s.doorLines[i].ctl.replyWait ≠ none)
    (hbad : doorReportOfBytes bytes = none) : exec (.doorReportArrival i bytes) s = .next (s.missDoor i) := by
  obtain ⟨poll, hpoll⟩ := Option.ne_none_iff_exists'.mp hwait
  change Host.Outcome.next (s.doorReply i bytes) = _
  simp only [State.doorReply, hpoll, hbad]

/-- A timeout of a POLL that is not outstanding finds nothing to act on. -/
theorem exec_doorReplyTimeout_of_late (h : s.doorLines[i].ctl.replyWait = none) :
    exec (.lineReplyTimeout (.door i)) s = .next s := by
  change Host.Outcome.next (s.replyTimeout (.door i)) = _
  simp only [State.replyTimeout, h, Option.isSome_none, Bool.false_eq_true, if_false]

/-- R142: the timeout of an outstanding POLL is a miss. -/
theorem exec_doorReplyTimeout_of_waiting (hwait : s.doorLines[i].ctl.replyWait ≠ none) :
    exec (.lineReplyTimeout (.door i)) s = .next (s.missDoor i) :=
  congrArg Host.Outcome.next (if_pos (Option.isSome_iff_ne_none.mpr hwait))

end

/-- Settles O20: the replies by whether a POLL is outstanding and the bytes are a good report; the bytes by their codes. -/
theorem doorLineReplies : Obligations.DoorLineReplies := by
  unfold Obligations.DoorLineReplies
  intro s i bytes
  refine ⟨fun hlate => ⟨exec_doorReportArrival_of_late hlate bytes, exec_doorReplyTimeout_of_late hlate⟩,
    fun hwait hnot => ?_, fun r hwait hstart hgood => ?_, doorReportOfBytes_of_shape, ?_⟩
  · rw [← DoorLine.miss_eq, ← State.missDoor_of_not_handed hnot]
    exact ⟨exec_doorReplyTimeout_of_waiting hwait, exec_doorReportArrival_of_damaged hwait⟩
  · rw [exec_doorReportArrival_of_good hwait hgood, State.goodDoor_of_startUp r hstart]
  · rintro b0 b1 rfl
    refine ⟨fun hcode => doorReportOfBytes_of_unassigned ?_, fun hA hB hfault => ?_⟩
    · exact hcode.imp (congrArg levelOfCode) (Or.imp (congrArg levelOfCode) unitFaultOfCode_of_four_le)
    · exact doorReportOfBytes_of_assigned (levelOfCode_of_ne_three (Nat.mod_lt _ (by decide)) hA)
        (levelOfCode_of_ne_three (Nat.mod_lt _ (by decide)) hB) (unitFaultOfCode_of_lt_four hfault)

end Sys2Proof.Machine
end
